-- ==== Sys2Proof/Word.lean ====
section
/-! DEFINITION. The word types of the V412: the bytes of service-link packets, the data beats of the
memory bus, the wider fields that packets carry (R145, R155), and a three-state pin (Table 10-10). -/

namespace Sys2Proof

/-- One byte of a service-link packet (R145). -/
abbrev Byte := BitVec 8

/-- A two-byte packet field: a signature, a preload, a sequence number (R155). -/
abbrev Half := BitVec 16

/-- A three-byte packet field: a block number as WRITE_WINDOW carries it (Table 10-5). -/
abbrev Triple := BitVec 24

/-- A four-byte field: a SET_PARAM value, a slot entry, a memory-bus byte address (R42, Table 10-3). -/
abbrev Quad := BitVec 32

/-- What a three-state output shows: it is driven at a level, true for high, or it is high impedance
(Table 10-10). -/
inductive Pin where
  | highImpedance
  | driven (level : Bool)
  deriving DecidableEq, Repr, Inhabited

/-- One beat of the memory bus: eight bytes of data (R42). -/
abbrev Beat := BitVec 64

end Sys2Proof
end

