-- ==== Sys2Proof/Config.lean ====
section
/-! DEFINITION. The fixed capacities that the manual gives the V412, and what it leaves open
as free values: an order of events, and a level of LDO. -/

namespace Sys2Proof.Config

/-- A port queue holds up to eight request records (R45). -/
def portQueueCapacity : Nat := 8

/-- The event queue holds up to 32 records (R129). -/
def eventQueueCapacity : Nat := 32

/-- A complete transfer carries at least 24 bytes, and the first 24 form the packet (R143). -/
def packetBytes : Nat := 24

/-- The bits of a packet or a response, eight to a byte (R143). -/
def packetBits : Nat := 192

/-- The result field of a response is bytes 3 to 21 (R146). -/
def resultBytes : Nat := 19

/-- A strike count stays at 15 (R59). -/
def strikeCeiling : Nat := 15

/-- An issue-list entry's tick count stays at 65535 (R98). -/
def tickCountCeiling : Nat := 65535

/-- The pending loss count stays at 255 (R131). -/
def lossCeiling : Nat := 255

/-- An exhaustions statistic stays at 65535 (R139). -/
def exhaustionsCeiling : Nat := 65535

/-- The highest block number (R43). -/
def lastBlock : Nat := 4194303

/-- FREE VALUE (assumption 4). The order in which several ports' PORT_QUIESCED events of one halt
reach the event unit: the manual says that either may be first (R130). The argument is the number
of such choices made before. It has no body, so nothing can be proved of the order it gives. -/
opaque quiescedOrder : Nat → Nat

/-- FREE VALUE (assumption 20). What LDO shows while LSEL# is low with no transfer in progress: the manual gives
LDO with LSEL# high (Table 10-10) and in a transfer (R143, R159), and does not say this (R154). The argument is the
number of free choices made before. It has no body, so nothing can be proved of what it gives. -/
opaque ldoOutsideTransfer : Nat → Pin

end Sys2Proof.Config
end

