-- ==== Sys2Proof/Syntax.lean ====
section
/-! DEFINITION. The commands of the V412: one constructor of `Instr` for each row of
spec/opcode_table.json, with the row's operands. A service-link row carries the operand bytes of its
packet as they were received, so that an operand out of range can be presented and refused BADVALUE. -/

namespace Sys2Proof

/-- A requester port, P0 to P3. -/
abbrev Port := Fin 4

/-- The kind of a memory-bus transaction (R42). -/
inductive Kind where
  | read
  | write
  deriving DecidableEq, Repr

/-- A transaction as a master presents it (R42). `lastBeat` is the beat count less one: the bus has no
way to encode a beat count outside 1 to 16. -/
structure Txn where
  kind : Kind
  address : Quad
  lastBeat : Fin 16
  data : List Beat
  deriving DecidableEq, Repr

/-- What the memory controller reports at a completion (R99). -/
inductive Completion where
  | good (data : List Beat)
  | fault
  deriving DecidableEq, Repr

/-- What makes a packet with a correct CRC name no command of the table: its code byte, or the
parameter identifier of a SET_PARAM packet (R149, R153). -/
inductive Unnamed where
  | code (code : Byte)
  | parameter (identifier : Byte)
  deriving DecidableEq, Repr

/-- The nine bytes of a window entry as WRITE_WINDOW carries them (Table 10-5). -/
structure RawWindow where
  valid : Byte
  access : Byte
  account : Byte
  base : Triple
  limit : Triple
  deriving DecidableEq, Repr

/-- The commands: every operation of the service link, every occurrence on the memory bus, every tick
and reset edge that the table lists. A `tag` is byte 1 of the packet; `bits` are the bits that LDI carried,
the first of them first. -/
inductive Instr where
  | resetAssert
  | resetRelease
  | tick
  | slotExpiry
  | frameBoundary
  | arrival (port : Port) (txn : Txn)
  | heldArrivalTake (port : Port)
  | arrivalWithdraw (port : Port)
  | take
  | completion (report : Completion)
  | entryTimeout
  | drainComplete
  | transferStart
  | shortTransfer (bits : List Bool)
  | badcrcPacket (code tag : Byte)
  | unknownCommand (tag : Byte) (what : Unnamed)
  | nop (tag : Byte)
  | readStatus (tag : Byte)
  | writeBankHeader (tag bank slots : Byte)
  | writeSlot (tag bank index : Byte) (entry : Quad)
  | readBank (tag bank : Byte)
  | readSlot (tag bank index : Byte)
  | switch (tag : Byte) (signature : Half)
  | cancelSwitch (tag : Byte)
  | writeWindow (tag port window : Byte) (entry : RawWindow)
  | readWindow (tag port window : Byte)
  | writeAccount (tag account : Byte) (preload : Half) (period parent exhaust : Byte)
  | readAccount (tag account : Byte)
  | stageOverride (tag account flag : Byte) (value : Half)
  | clearOverride (tag account : Byte)
  | refillNow (tag account : Byte)
  | engage (tag bank : Byte) (signature : Half)
  | disengage (tag : Byte)
  | halt (tag : Byte)
  | restart (tag : Byte)
  | quiesce (tag port flush : Byte)
  | resume (tag port : Byte)
  | setTickDivider (tag : Byte) (value : Quad)
  | setDepth (tag : Byte) (value : Quad)
  | setTimeout (tag : Byte) (value : Quad)
  | setFaultAction (tag : Byte) (value : Quad)
  | setFenceLimit (tag : Byte) (value : Quad)
  | setAlertMask (tag : Byte) (value : Quad)
  | discardAbandoned (tag : Byte)
  | readEvent (tag : Byte)
  | ackEvent (tag : Byte) (sequence : Half)
  | readStats (tag object clear : Byte)
  | lselRiseWithoutTransfer
  deriving DecidableEq, Repr

end Sys2Proof
end

