-- ==== Sys2Proof/WellFormed.lean ====
section
/-! DEFINITION. Which commands are well formed: the shape that the memory bus and the service link
give their operands before any rule judges them. An operand that a rule refuses BADVALUE is still
well formed. -/

namespace Sys2Proof

/-- The beat count of a transaction, 1 to 16 (R42). -/
def Txn.beats (t : Txn) : Nat := t.lastBeat.val + 1

/-- A WRITE carries as many data beats as its beat count, and a READ carries none (R42). -/
def Txn.wellFormed (t : Txn) : Bool :=
  match t.kind with
  | .read => t.data.isEmpty
  | .write => t.data.length == t.beats

/-- A completion carries the data of one transaction at most, 16 beats (R42, R99). -/
def Completion.wellFormed : Completion → Bool
  | .good data => data.length ≤ 16
  | .fault => true

/-- The 25 command codes of Table 10-3. -/
def commandCodes : List Byte :=
  [0x00, 0x01, 0x10, 0x11, 0x12, 0x13, 0x14, 0x15, 0x20, 0x21, 0x30, 0x31, 0x32, 0x33,
   0x40, 0x41, 0x42, 0x43, 0x50, 0x51, 0x60, 0x61, 0x70, 0x71, 0x72]

/-- The six SET_PARAM identifiers of section 10.3. -/
def parameterIdentifiers : List Byte := [0x01, 0x02, 0x03, 0x04, 0x05, 0x06]

/-- A packet names no command of the table when its code is not one of the 25, or when it is a
SET_PARAM packet whose identifier is not one of the six (R149, R153). -/
def Unnamed.wellFormed : Unnamed → Bool
  | .code c => !commandCodes.contains c
  | .parameter i => !parameterIdentifiers.contains i

/-- The shape of a command's operands. A packet with stage flag 00h is the row CLEAR_OVERRIDE, so
the row STAGE_OVERRIDE carries any other flag byte (Table 10-3). -/
def Instr.wellFormed : Instr → Bool
  | .arrival _ t => t.wellFormed
  | .completion r => r.wellFormed
  | .shortTransfer bits => bits.length < Config.packetBits
  | .unknownCommand _ what => what.wellFormed
  | .stageOverride _ _ flag _ => flag != 0
  | .resetAssert | .resetRelease | .tick | .slotExpiry | .frameBoundary => true
  | .heldArrivalTake _ | .arrivalWithdraw _ | .take | .entryTimeout | .drainComplete => true
  | .transferStart | .badcrcPacket _ _ | .nop _ | .readStatus _ => true
  | .writeBankHeader _ _ _ | .writeSlot _ _ _ _ | .readBank _ _ | .readSlot _ _ _ => true
  | .switch _ _ | .cancelSwitch _ | .writeWindow _ _ _ _ | .readWindow _ _ _ => true
  | .writeAccount _ _ _ _ _ _ | .readAccount _ _ | .clearOverride _ _ | .refillNow _ _ => true
  | .engage _ _ _ | .disengage _ | .halt _ | .restart _ | .quiesce _ _ _ | .resume _ _ => true
  | .setTickDivider _ _ | .setDepth _ _ | .setTimeout _ _ | .setFaultAction _ _ => true
  | .setFenceLimit _ _ | .setAlertMask _ _ | .discardAbandoned _ | .readEvent _ => true
  | .ackEvent _ _ | .readStats _ _ _ | .lselRiseWithoutTransfer => true

end Sys2Proof
end

