-- ==== Sys2Proof/Decode.lean ====
section
/-! DEFINITION. The bytes of a service-link transfer and the command they spell: the CRC (R156), the
operand layouts of Table 10-3, and the checks of R143, R148 and R149 that come before any owning
block. An encoder follows, written from the same tables. The rows of spec/opcode_table.json carry no
bits, so `decodeTableWord` spells none of them. -/

namespace Sys2Proof

/-- One shift of the CRC register: left by one bit, and the polynomial 1021h when the bit shifted out
was 1 (R156, step 3). -/
def crcShift (r : Half) : Half :=
  if r.msb then (r <<< 1) ^^^ 0x1021#16 else r <<< 1

/-- One byte enters the CRC: exclusive-or into the upper eight bits, then eight shifts (R156). Irreducible,
so that comparing two CRCs never unfolds them. -/
@[irreducible] def crcByte (r : Half) (b : Byte) : Half :=
  let r := r ^^^ (b.setWidth 16 <<< 8)
  crcShift (crcShift (crcShift (crcShift (crcShift (crcShift (crcShift (crcShift r)))))))

/-- The CRC of a run of bytes: start at FFFFh, no final inversion (R156). -/
def crc (bytes : List Byte) : Half := bytes.foldl crcByte 0xFFFF#16

/-- Byte `i` of a packet. -/
def byteAt (bytes : List Byte) (i : Nat) : Byte := bytes.getD i 0

/-- The two-byte field at byte `i`, most significant byte first (R155). -/
def halfAt (bytes : List Byte) (i : Nat) : Half := byteAt bytes i ++ byteAt bytes (i + 1)

/-- The three-byte field at byte `i`, most significant byte first (R155). -/
def tripleAt (bytes : List Byte) (i : Nat) : Triple :=
  byteAt bytes i ++ byteAt bytes (i + 1) ++ byteAt bytes (i + 2)

/-- The four-byte field at byte `i`, most significant byte first (R155). -/
def quadAt (bytes : List Byte) (i : Nat) : Quad := halfAt bytes i ++ halfAt bytes (i + 2)

/-- The window entry at byte `i` (Table 10-5). -/
def windowAt (bytes : List Byte) (i : Nat) : RawWindow where
  valid := byteAt bytes i
  access := byteAt bytes (i + 1)
  account := byteAt bytes (i + 2)
  base := tripleAt bytes (i + 3)
  limit := tripleAt bytes (i + 6)

/-- A SET_PARAM packet is the row of the parameter it names (R153). -/
def decodeParameter (identifier tag : Byte) (value : Quad) : Instr :=
  if identifier = 0x01 then .setTickDivider tag value
  else if identifier = 0x02 then .setDepth tag value
  else if identifier = 0x03 then .setTimeout tag value
  else if identifier = 0x04 then .setFaultAction tag value
  else if identifier = 0x05 then .setFenceLimit tag value
  else if identifier = 0x06 then .setAlertMask tag value
  else .unknownCommand tag (.parameter identifier)

/-- The command of a packet whose CRC is correct (Table 10-3). Operand bytes that no field of the
command occupies are disregarded (R145, R155). -/
def decodeCommand (b : List Byte) : Instr :=
  let tag := byteAt b 1
  match (byteAt b 0).toNat with
  | 0x00 => .nop tag
  | 0x01 => .readStatus tag
  | 0x10 => .writeBankHeader tag (byteAt b 2) (byteAt b 3)
  | 0x11 => .writeSlot tag (byteAt b 2) (byteAt b 3) (quadAt b 4)
  | 0x12 => .readBank tag (byteAt b 2)
  | 0x13 => .readSlot tag (byteAt b 2) (byteAt b 3)
  | 0x14 => .switch tag (halfAt b 2)
  | 0x15 => .cancelSwitch tag
  | 0x20 => .writeWindow tag (byteAt b 2) (byteAt b 3) (windowAt b 4)
  | 0x21 => .readWindow tag (byteAt b 2) (byteAt b 3)
  | 0x30 => .writeAccount tag (byteAt b 2) (halfAt b 3) (byteAt b 5) (byteAt b 6) (byteAt b 7)
  | 0x31 => .readAccount tag (byteAt b 2)
  | 0x32 =>
    if byteAt b 3 = 0 then .clearOverride tag (byteAt b 2)
    else .stageOverride tag (byteAt b 2) (byteAt b 3) (halfAt b 4)
  | 0x33 => .refillNow tag (byteAt b 2)
  | 0x40 => .engage tag (byteAt b 2) (halfAt b 3)
  | 0x41 => .disengage tag
  | 0x42 => .halt tag
  | 0x43 => .restart tag
  | 0x50 => .quiesce tag (byteAt b 2) (byteAt b 3)
  | 0x51 => .resume tag (byteAt b 2)
  | 0x60 => decodeParameter (byteAt b 2) tag (quadAt b 3)
  | 0x61 => .discardAbandoned tag
  | 0x70 => .readEvent tag
  | 0x71 => .ackEvent tag (halfAt b 2)
  | 0x72 => .readStats tag (byteAt b 2) (byteAt b 3)
  | _ => .unknownCommand tag (.code (byteAt b 0))

/-- A packet passes the first check when the CRC of bytes 0 to 21 equals bytes 22 and 23 (R148, R156). -/
def crcHolds (b : List Byte) : Bool := crc (b.take 22) == halfAt b 22

/-- The eight bits of a byte, most significant bit first (R143). -/
def byteBits (b : Byte) : List Bool :=
  [b.getMsbD 0, b.getMsbD 1, b.getMsbD 2, b.getMsbD 3, b.getMsbD 4, b.getMsbD 5, b.getMsbD 6, b.getMsbD 7]

/-- The bits of a run of bytes, byte 0 first, each most significant bit first (R143). -/
def spreadBytes (bytes : List Byte) : List Bool := bytes.flatMap byteBits

/-- The complete bytes of a run of bits: eight at a time, most significant bit first; the bits of an
unfinished last byte are disregarded (R143). -/
def gatherBytes : List Bool → List Byte
  | b0 :: b1 :: b2 :: b3 :: b4 :: b5 :: b6 :: b7 :: rest =>
    BitVec.ofBoolListBE [b0, b1, b2, b3, b4, b5, b6, b7] :: gatherBytes rest
  | _ => []

/-- The command of a complete transfer's bytes: the first 24 form the packet, which is checked and then
read, and the bytes after them are disregarded (R143, R148). -/
def decodePacket (bytes : List Byte) : Instr :=
  let b := bytes.take Config.packetBytes
  if crcHolds b then decodeCommand b else .badcrcPacket (byteAt b 0) (byteAt b 1)

/-- The row that the bits LDI carried spell when LSEL# rises (R143): fewer than 24 complete bytes make a
short transfer. -/
def decodeTransfer (bits : List Bool) : Instr :=
  let bytes := gatherBytes bits
  if bytes.length < Config.packetBytes then .shortTransfer bits else decodePacket bytes

/-- The table gives no row any bits, so no word spells a command (assumption 12). -/
def decodeTableWord (_nbits _w : Nat) : Option Instr := none

/-- The bytes of a two-byte field, most significant byte first (R155). -/
def halfBytes (x : Half) : List Byte := [x.extractLsb' 8 8, x.extractLsb' 0 8]

/-- The bytes of a three-byte field, most significant byte first (R155). -/
def tripleBytes (x : Triple) : List Byte :=
  [x.extractLsb' 16 8, x.extractLsb' 8 8, x.extractLsb' 0 8]

/-- The bytes of a four-byte field, most significant byte first (R155). -/
def quadBytes (x : Quad) : List Byte :=
  [x.extractLsb' 24 8, x.extractLsb' 16 8, x.extractLsb' 8 8, x.extractLsb' 0 8]

/-- The nine bytes of a window entry (Table 10-5). -/
def rawWindowBytes (w : RawWindow) : List Byte :=
  [w.valid, w.access, w.account] ++ tripleBytes w.base ++ tripleBytes w.limit

/-- A command packet: code, tag, operands filled with zeros to byte 21, CRC (R145, R156). -/
def packetOf (code tag : Byte) (operands : List Byte) : List Byte :=
  let body := code :: tag :: operands ++ List.replicate (20 - operands.length) 0
  body ++ halfBytes (crc body)

/-- The bytes of the packet that spells a service-link command (Table 10-3). Rows that are no packet have
none, and neither has a packet with a bad CRC, whose bytes its row does not fix. -/
def encodePacket : Instr → Option (List Byte)
  | .unknownCommand tag (.code c) => some (packetOf c tag [])
  | .unknownCommand tag (.parameter i) => some (packetOf 0x60 tag [i])
  | .nop tag => some (packetOf 0x00 tag [])
  | .readStatus tag => some (packetOf 0x01 tag [])
  | .writeBankHeader tag bank slots => some (packetOf 0x10 tag [bank, slots])
  | .writeSlot tag bank index entry => some (packetOf 0x11 tag (bank :: index :: quadBytes entry))
  | .readBank tag bank => some (packetOf 0x12 tag [bank])
  | .readSlot tag bank index => some (packetOf 0x13 tag [bank, index])
  | .switch tag signature => some (packetOf 0x14 tag (halfBytes signature))
  | .cancelSwitch tag => some (packetOf 0x15 tag [])
  | .writeWindow tag port window entry =>
    some (packetOf 0x20 tag (port :: window :: rawWindowBytes entry))
  | .readWindow tag port window => some (packetOf 0x21 tag [port, window])
  | .writeAccount tag account preload period parent exhaust =>
    some (packetOf 0x30 tag (account :: halfBytes preload ++ [period, parent, exhaust]))
  | .readAccount tag account => some (packetOf 0x31 tag [account])
  | .stageOverride tag account flag value =>
    some (packetOf 0x32 tag (account :: flag :: halfBytes value))
  | .clearOverride tag account => some (packetOf 0x32 tag [account, 0])
  | .refillNow tag account => some (packetOf 0x33 tag [account])
  | .engage tag bank signature => some (packetOf 0x40 tag (bank :: halfBytes signature))
  | .disengage tag => some (packetOf 0x41 tag [])
  | .halt tag => some (packetOf 0x42 tag [])
  | .restart tag => some (packetOf 0x43 tag [])
  | .quiesce tag port flush => some (packetOf 0x50 tag [port, flush])
  | .resume tag port => some (packetOf 0x51 tag [port])
  | .setTickDivider tag value => some (packetOf 0x60 tag (0x01 :: quadBytes value))
  | .setDepth tag value => some (packetOf 0x60 tag (0x02 :: quadBytes value))
  | .setTimeout tag value => some (packetOf 0x60 tag (0x03 :: quadBytes value))
  | .setFaultAction tag value => some (packetOf 0x60 tag (0x04 :: quadBytes value))
  | .setFenceLimit tag value => some (packetOf 0x60 tag (0x05 :: quadBytes value))
  | .setAlertMask tag value => some (packetOf 0x60 tag (0x06 :: quadBytes value))
  | .discardAbandoned tag => some (packetOf 0x61 tag [])
  | .readEvent tag => some (packetOf 0x70 tag [])
  | .ackEvent tag sequence => some (packetOf 0x71 tag (halfBytes sequence))
  | .readStats tag object clear => some (packetOf 0x72 tag [object, clear])
  | .resetAssert | .resetRelease | .tick | .slotExpiry | .frameBoundary => none
  | .arrival _ _ | .heldArrivalTake _ | .arrivalWithdraw _ | .take | .completion _ => none
  | .entryTimeout | .drainComplete | .transferStart | .badcrcPacket _ _ => none
  | .shortTransfer _ | .lselRiseWithoutTransfer => none

/-- The bits that LDI carries in the transfer that spells a row (R143). -/
def encodeTransfer : Instr → Option (List Bool)
  | .shortTransfer bits => some bits
  | i => (encodePacket i).map spreadBytes

end Sys2Proof
end

