-- ==== Sys2Proof/Machine/State.lean ====
section
/-! DEFINITION. Everything the V412 holds, as plain data: one type for each object that the manual
names, one field of `State` for each block, the reset values, and the reasons a step can stop. -/

namespace Sys2Proof.Machine

/-- A budget account, A0 to A7 (R22). -/
abbrev AccountIx := Fin 8

/-- A window of one port, W0 to W7 (R64). -/
abbrev WindowIx := Fin 8

/-- A slot index, 0 to 31 (R3). -/
abbrev SlotIx := Fin 32

/-- Bank 0 or bank 1 (R3). -/
abbrev BankIx := Fin 2

/-- The regulator modes (R115). -/
inductive Mode where
  | pass
  | engaging
  | engaged
  | halted
  deriving DecidableEq, Repr

/-- The owner of a slot (Table 1-1). `everyPort` is the owner OPEN. -/
inductive Owner where
  | port (p : Port)
  | everyPort
  | quiet
  deriving DecidableEq, Repr

/-- The idle policy of a slot (Table 1-1). -/
inductive IdlePolicy where
  | lend
  | hold
  deriving DecidableEq, Repr

/-- A slot entry (Table 1-1): length 1 to 4095 ticks, cutoff 0 to 255 ticks. -/
structure SlotEntry where
  owner : Owner
  length : Nat
  cutoff : Nat
  idle : IdlePolicy
  deriving DecidableEq, Repr

/-- A bank (R3, R4): slot count S, 0 or 2 to 32; 32 stored entries; the signature. -/
structure Bank where
  slots : Nat
  entries : Vector SlotEntry 32
  signature : Half
  deriving DecidableEq, Repr

/-- The slot calendar (R1, R3, R5, R10, R16): tick divider, banks, active-bank selector,
pending-switch flag, and the running position. -/
structure Calendar where
  divider : Nat
  banks : Vector Bank 2
  active : BankIx
  pendingSwitch : Bool
  frame : Half
  slot : SlotIx
  ticks : Nat
  deriving DecidableEq, Repr

/-- The access of a window (Table 4-1). -/
inductive Access where
  | read
  | write
  | both
  deriving DecidableEq, Repr

/-- A window (Table 4-1). Block numbers run from 0 to 4 194 303. -/
structure Window where
  valid : Bool
  base : Nat
  limit : Nat
  access : Access
  account : AccountIx
  deriving DecidableEq, Repr

/-- The exhaust mode of an account (Table 2-1). -/
inductive ExhaustMode where
  | wait
  | background
  deriving DecidableEq, Repr

/-- A budget account (Table 2-1). `override` is `none` when absent. -/
structure Account where
  count : Int
  preload : Nat
  period : Nat
  countdown : Nat
  parent : Option AccountIx
  exhaust : ExhaustMode
  override : Option Nat
  deriving DecidableEq, Repr

/-- The statistics of an account (R139). -/
structure AccountStats where
  charged : Quad
  exhaustions : Nat
  deriving DecidableEq, Repr

/-- The statistics of a port (Table 8-3). -/
structure PortStats where
  passBeats : Quad
  inBudgetBeats : Quad
  lentBeats : Quad
  backgroundBeats : Quad
  refusals : Quad
  spills : Quad
  deriving DecidableEq, Repr

/-- The status of a response to a master (Table 3-3). -/
inductive Status where
  | ok
  | fault
  | timeout
  | malformed
  | window
  | access
  | fenced
  | flushed
  | halted
  deriving DecidableEq, Repr

/-- The note of an engaged transaction (R52). `opened` is the note OPEN. -/
inductive Note where
  | opened
  | lent
  | background
  deriving DecidableEq, Repr

/-- The state of a request record (R48). A status is present once the state is DONE or REFUSED. -/
inductive RecordState where
  | waiting
  | issued
  | done (status : Status)
  | refused (status : Status)
  deriving DecidableEq, Repr

/-- A frame number and slot index (R10). -/
structure Position where
  frame : Half
  slot : SlotIx
  deriving DecidableEq, Repr

/-- A request record (Table 3-1). The transaction holds kind, address, beat count and write data.
`serial` is the model's own name for the record (assumption 5): an offer and an issue-list entry
refer to a record by it. -/
structure Record where
  serial : Nat
  txn : Txn
  account : Option AccountIx
  window : Option WindowIx
  state : RecordState
  note : Option Note
  issuedAt : Option Position
  readData : Option (List Beat)
  deriving DecidableEq, Repr

/-- The state of a requester port (chapter 3). -/
inductive PortState where
  | active
  | quiescing
  | quiesced
  | fenced
  deriving DecidableEq, Repr

/-- A requester port: its queue, oldest record first; its state; its strike count (R45, R59); and the
transaction that its master presents and the port holds off, if any (R44). -/
structure PortUnit where
  queue : List Record
  state : PortState
  strikes : Nat
  arrival : Option Txn
  deriving DecidableEq, Repr

/-- The grounds on which an offer was admitted (R77). -/
inductive Grounds where
  | pass
  | owner
  | lent
  | opened
  | background
  deriving DecidableEq, Repr

/-- The outstanding offer (R77): one record of one port with its grounds, and whether a rotation
search chose it (R83). -/
structure Offer where
  port : Port
  serial : Nat
  grounds : Grounds
  rotation : Bool
  deriving DecidableEq, Repr

/-- The state of an issue-list entry (Table 6-1). -/
inductive EntryState where
  | waiting
  | abandoned
  deriving DecidableEq, Repr

/-- An issue-list entry (Table 6-1). `record` is the serial of the record it serves, and none once the
entry is abandoned. -/
structure Entry where
  port : Port
  record : Option Nat
  kind : Kind
  beats : Nat
  ticks : Nat
  limit : Nat
  state : EntryState
  deriving DecidableEq, Repr

/-- The fault action (R107). `carryOn` is CONTINUE. -/
inductive FaultAction where
  | carryOn
  | halt
  deriving DecidableEq, Repr

/-- The memory-side port (chapter 6): issue list, oldest first; depth D; timeout T; fault action. -/
structure MemorySide where
  issue : List Entry
  depth : Nat
  timeout : Nat
  faultAction : FaultAction
  deriving DecidableEq, Repr

/-- The 13 event kinds (Table 8-2). -/
inductive EventKind where
  | windowMiss
  | accessDenied
  | malformed
  | portFenced
  | portQuiesced
  | accountExhausted
  | downstreamFault
  | downstreamTimeout
  | lateCompletion
  | strayCompletion
  | modeChange
  | switchDone
  | switchDropped
  deriving DecidableEq, Repr

/-- What the producer of an event reports: its kind and its optional fields (Table 8-1). -/
structure Report where
  kind : EventKind
  port : Option Port := none
  account : Option AccountIx := none
  address : Option Quad := none
  detail : Option Byte := none
  deriving DecidableEq, Repr

/-- A stored event record (Table 8-1). -/
structure Event where
  sequence : Half
  lostBefore : Nat
  position : Position
  report : Report
  deriving DecidableEq, Repr

/-- The event unit (chapter 8): event queue, oldest first; next sequence number; pending loss count;
alert mask, bit n for kind code n; and the ALERT# output, true while asserted. -/
structure EventUnit where
  queue : List Event
  nextSequence : Half
  pendingLoss : Nat
  mask : BitVec 13
  alert : Bool
  deriving DecidableEq, Repr

/-- The status of a service-link response (Table 9-1). -/
inductive LinkStatus where
  | none
  | done
  | accepted
  | badcrc
  | short
  | badcmd
  | badvalue
  | mode
  | banklive
  | busy
  | loop
  | signature
  | stale
  | empty
  | notpending
  deriving DecidableEq, Repr

/-- A service-link response (R146): status, tag, code echo and the 19 result bytes. Its CRC is computed
from them. -/
structure Response where
  status : LinkStatus
  tag : Byte
  code : Byte
  result : List Byte
  deriving DecidableEq, Repr

/-- The service link (chapter 9): the level of LSEL#; the response that the transfer in progress shifts
out, none outside a transfer; the held response, none while a transfer is in progress (R147); and what LDO shows: high
impedance while LSEL# is high, and, from the fall that begins a transfer, the first bit of the response
(R143, R159, Table 10-10). The bits after the first come with the row that ends the transfer (assumption 11). -/
structure Link where
  lselLow : Bool
  shifting : Option Response
  held : Option Response
  ldo : Pin
  deriving DecidableEq, Repr

/-- A response to a master (R51). -/
structure Answer where
  status : Status
  note : Option Note
  data : Option (List Beat)
  deriving DecidableEq, Repr

/-- What the regulator drove outward during the last command (assumption 6): the answers to each
master, oldest first; the transaction forwarded to the memory controller; where the command began a transfer, the
bit that LDO presented at the fall of LSEL# (R159); and, for a command that ends a transfer, the bits that LDO carried
in it, one for each LCK period, the first of them first. In any period past the end of the list LDO was low (R143). -/
structure Outputs where
  answers : Vector (List Answer) 4
  forwarded : Option Txn
  presented : Option Bool
  ldo : List Bool
  deriving DecidableEq, Repr

/-- The whole machine. `pending` is the queue of commands that wait, `inReset` is true while RESET# is
asserted, `serial` numbers the next record taken, and `choices` counts the free
choices already drawn from `Config.quiescedOrder` and `Config.ldoOutsideTransfer`. -/
structure State where
  pending : List Instr
  inReset : Bool
  mode : Mode
  pendingDisengage : Bool
  calendar : Calendar
  accounts : Vector Account 8
  accountStats : Vector AccountStats 8
  windows : Vector (Vector Window 8) 4
  ports : Vector PortUnit 4
  portStats : Vector PortStats 4
  fenceLimit : Nat
  pointer : Port
  offer : Option Offer
  memory : MemorySide
  events : EventUnit
  link : Link
  outputs : Outputs
  serial : Nat
  choices : Nat
  deriving DecidableEq, Repr

/-- No command of the V412 ends in a fault: the manual gives every row an effect. -/
inductive Fault : Type
  deriving DecidableEq, Repr

/-- Why a command has no meaning. -/
inductive Refusal where
  /-- Raised by an arm of `exec` whose command has no meaning yet; no arm raises it. Safe: the machine
  stops. -/
  | notModelled (mnemonic : String)
  deriving DecidableEq, Repr

/-- The reset entry of a slot (R3). -/
def SlotEntry.reset : SlotEntry := ⟨.quiet, 1, 0, .hold⟩

/-- The empty-bank signature (R156). -/
def emptyBankSignature : Half := 0xE1F0

/-- A bank after RESET# (R3, R4). -/
def Bank.reset : Bank := ⟨0, Vector.replicate 32 .reset, emptyBankSignature⟩

/-- The calendar after RESET# (section 1.8). -/
def Calendar.reset : Calendar := ⟨100, Vector.replicate 2 .reset, 0, false, 0, 0, 0⟩

/-- A window after RESET# (R76). -/
def Window.reset : Window := ⟨false, 0, 0, .both, 0⟩

/-- An account after RESET# (Table 2-2). -/
def Account.reset : Account := ⟨0, 0, 1, 1, none, .wait, none⟩

/-- The statistics of an account after RESET# (R142). -/
def AccountStats.reset : AccountStats := ⟨0, 0⟩

/-- The statistics of a port after RESET# (R142). -/
def PortStats.reset : PortStats := ⟨0, 0, 0, 0, 0, 0⟩

/-- A port after RESET# (R63). -/
def PortUnit.reset : PortUnit := ⟨[], .active, 0, none⟩

/-- The memory-side port after RESET# (R114). -/
def MemorySide.reset : MemorySide := ⟨[], 1, 0, .carryOn⟩

/-- The event unit after RESET# (R142): the mask holds every kind but MODE_CHANGE and SWITCH_DONE. -/
def EventUnit.reset : EventUnit := ⟨[], 0, 0, 0x13FF, false⟩

/-- The response held after RESET# (R154). -/
def Response.reset : Response := ⟨.none, 0, 0, List.replicate Config.resultBytes 0⟩

/-- No output driven. -/
def Outputs.silent : Outputs := ⟨Vector.replicate 4 [], none, none, []⟩

/-- The machine right after reset: RESET# has been asserted and released, and LSEL# is high. -/
def State.reset : State where
  pending := []
  inReset := false
  mode := .pass
  pendingDisengage := false
  calendar := .reset
  accounts := Vector.replicate 8 .reset
  accountStats := Vector.replicate 8 .reset
  windows := Vector.replicate 4 (Vector.replicate 8 .reset)
  ports := Vector.replicate 4 .reset
  portStats := Vector.replicate 4 .reset
  fenceLimit := 0
  pointer := 0
  offer := none
  memory := .reset
  events := .reset
  link := ⟨false, none, some .reset, .highImpedance⟩
  outputs := .silent
  serial := 0
  choices := 0

end Sys2Proof.Machine
end

