-- ==== Sys2Proof/Machine/Operands.lean ====
section
/-! DEFINITION. Every operand form of a command packet: the value that its bytes code, or none where
the operand is refused BADVALUE (R149, R155, Tables 10-1 to 10-5). -/

namespace Sys2Proof.Machine

/-- A byte that must name one of `n` things numbered from 0. -/
def index? (n : Nat) (b : Byte) : Option (Fin n) :=
  if h : b.toNat < n then some ⟨b.toNat, h⟩ else none

/-- A port byte, 00h to 03h (Table 10-1). -/
def port? (b : Byte) : Option Port := index? 4 b

/-- A window index, W0 to W7 (R73). -/
def windowIx? (b : Byte) : Option WindowIx := index? 8 b

/-- An account byte, 00h to 07h (Table 10-1). -/
def account? (b : Byte) : Option AccountIx := index? 8 b

/-- A bank byte, 00h or 01h (Table 10-1). -/
def bank? (b : Byte) : Option BankIx := index? 2 b

/-- A slot index, 0 to 31 (R8). -/
def slotIx? (b : Byte) : Option SlotIx := index? 32 b

/-- A slot count: 0, or 2 to 32 (R7). -/
def slotCount? (b : Byte) : Option Nat :=
  if b.toNat = 1 ∨ 32 < b.toNat then none else some b.toNat

/-- A flag byte: 00h clear, 01h set (Table 10-1). -/
def flag? (b : Byte) : Option Bool :=
  if b = 0x00 then some false else if b = 0x01 then some true else none

/-- An owner code: 0 to 3 a port, 4 OPEN, 5 QUIET (Table 10-2). -/
def owner? (code : Nat) : Option Owner :=
  if h : code < 4 then some (.port ⟨code, h⟩)
  else if code = 4 then some .everyPort
  else if code = 5 then some .quiet
  else none

/-- An idle-policy code: 0 HOLD, 1 LEND (Table 10-2). -/
def idlePolicy? (code : Nat) : Option IdlePolicy :=
  if code = 0 then some .hold else if code = 1 then some .lend else none

/-- A slot entry of four bytes (Table 10-2). A length of 0 or above 4095 is refused (R8). -/
def slotEntry? (raw : Quad) : Option SlotEntry := do
  let owner ← owner? (raw.extractLsb' 28 4).toNat
  let idle ← idlePolicy? (raw.extractLsb' 24 4).toNat
  let length := (raw.extractLsb' 8 16).toNat
  if length = 0 ∨ 4095 < length then none
  else some ⟨owner, length, (raw.extractLsb' 0 8).toNat, idle⟩

/-- An access byte: 01h READ, 02h WRITE, 03h BOTH (Table 10-1). -/
def access? (b : Byte) : Option Access :=
  if b = 0x01 then some .read
  else if b = 0x02 then some .write
  else if b = 0x03 then some .both
  else none

/-- A window entry (Table 10-5): block numbers in range, and the base not above the limit, whether or
not the window is valid (R73). -/
def window? (raw : RawWindow) : Option Window := do
  let valid ← flag? raw.valid
  let access ← access? raw.access
  let account ← account? raw.account
  if Config.lastBlock < raw.base.toNat ∨ Config.lastBlock < raw.limit.toNat
      ∨ raw.limit.toNat < raw.base.toNat then none
  else some ⟨valid, raw.base.toNat, raw.limit.toNat, access, account⟩

/-- A parent byte: 00h to 07h an account, FFh none (Table 10-1). -/
def parent? (b : Byte) : Option (Option AccountIx) :=
  if b = 0xFF then some none else (account? b).map some

/-- An exhaust-mode byte: 00h WAIT, 01h BACKGROUND (Table 10-1). -/
def exhaustMode? (b : Byte) : Option ExhaustMode :=
  if b = 0x00 then some .wait else if b = 0x01 then some .background else none

/-- A period of 1 to 255 frames; 0 is refused (R35). -/
def period? (b : Byte) : Option Nat := if b = 0 then none else some b.toNat

/-- A SET_PARAM value that must lie between two bounds, both included (R153). -/
def ranged? (low high : Nat) (value : Quad) : Option Nat :=
  if low ≤ value.toNat ∧ value.toNat ≤ high then some value.toNat else none

/-- A fault-action value: 00h CONTINUE, 01h HALT (R107). -/
def faultAction? (value : Quad) : Option FaultAction :=
  if value = 0 then some .carryOn else if value = 1 then some .halt else none

/-- An alert-mask value: bits 13 to 31 must be 0 (R136, section 10.3). -/
def alertMask? (value : Quad) : Option (BitVec 13) :=
  if value.toNat < 8192 then some (value.setWidth 13) else none

/-- What READ_STATS can name (R157). -/
inductive StatsObject where
  | beats (p : Port)
  | exceptions (p : Port)
  | account (a : AccountIx)
  deriving DecidableEq, Repr

/-- An object code: 00h to 03h, 04h to 07h, 10h to 17h (R157). -/
def statsObject? (b : Byte) : Option StatsObject :=
  if h : b.toNat < 4 then some (.beats ⟨b.toNat, h⟩)
  else if h : b.toNat - 4 < 4 then some (.exceptions ⟨b.toNat - 4, h⟩)
  else if h : 16 ≤ b.toNat ∧ b.toNat - 16 < 8 then some (.account ⟨b.toNat - 16, h.2⟩)
  else none

end Sys2Proof.Machine
end

