-- ==== Sys2Proof/Machine/Formats.lean ====
section
/-! DEFINITION. Every code and byte layout that the regulator sends: the codes of Tables 10-1, 10-7 and
10-9, the result layouts of Tables 10-3 to 10-8, bank signatures, and the fields of a response to a
master (R158). -/

namespace Sys2Proof.Machine

/-- A number in one byte. -/
def byteOf (n : Nat) : Byte := BitVec.ofNat 8 n

/-- A number in two bytes, upper byte first (R155). -/
def twoBytes (n : Nat) : List Byte := halfBytes (BitVec.ofNat 16 n)

/-- A number in three bytes, upper byte first (R155). -/
def threeBytes (n : Nat) : List Byte := tripleBytes (BitVec.ofNat 24 n)

/-- A number in four bytes, upper byte first (R155). -/
def fourBytes (n : Nat) : List Byte := quadBytes (BitVec.ofNat 32 n)

/-- A flag: 00h clear, 01h set (Table 10-1). -/
def flagByte (b : Bool) : Byte := if b then 0x01 else 0x00

/-- The code of a mode (Table 10-1). -/
def modeCode : Mode → Byte
  | .pass => 0x00
  | .engaging => 0x01
  | .engaged => 0x02
  | .halted => 0x03

/-- The code of a port state (Table 10-1). -/
def portStateCode : PortState → Byte
  | .active => 0
  | .quiescing => 1
  | .quiesced => 2
  | .fenced => 3

/-- The code of an owner (Table 10-2). -/
def ownerCode : Owner → Byte
  | .port p => byteOf p.val
  | .everyPort => 4
  | .quiet => 5

/-- The code of an idle policy (Table 10-2). -/
def idlePolicyCode : IdlePolicy → Byte
  | .hold => 0
  | .lend => 1

/-- The code of an access (Table 10-1). -/
def accessCode : Access → Byte
  | .read => 0x01
  | .write => 0x02
  | .both => 0x03

/-- The code of a parent (Table 10-1). -/
def parentCode : Option AccountIx → Byte
  | some a => byteOf a.val
  | none => 0xFF

/-- The code of an exhaust mode (Table 10-1). -/
def exhaustModeCode : ExhaustMode → Byte
  | .wait => 0x00
  | .background => 0x01

/-- The code of a fault action (Table 10-1). -/
def faultActionCode : FaultAction → Nat
  | .carryOn => 0
  | .halt => 1

/-- The code of an event kind (Table 10-7). -/
def eventKindCode : EventKind → Nat
  | .windowMiss => 0x00
  | .accessDenied => 0x01
  | .malformed => 0x02
  | .portFenced => 0x03
  | .portQuiesced => 0x04
  | .accountExhausted => 0x05
  | .downstreamFault => 0x06
  | .downstreamTimeout => 0x07
  | .lateCompletion => 0x08
  | .strayCompletion => 0x09
  | .modeChange => 0x0A
  | .switchDone => 0x0B
  | .switchDropped => 0x0C

/-- The code of a link status (Table 10-9). -/
def linkStatusCode : LinkStatus → Byte
  | .none => 0x00
  | .done => 0x01
  | .accepted => 0x02
  | .badcrc => 0x10
  | .short => 0x11
  | .badcmd => 0x12
  | .badvalue => 0x13
  | .mode => 0x20
  | .banklive => 0x21
  | .busy => 0x22
  | .loop => 0x23
  | .signature => 0x24
  | .stale => 0x25
  | .empty => 0x26
  | .notpending => 0x27

/-- The completion status in a detail byte: 00h GOOD, 01h FAULT (Table 10-1). -/
def completionCode : Completion → Byte
  | .good _ => 0x00
  | .fault => 0x01

/-- The 4-bit status field of a response to a master (R158). -/
def statusField : Status → BitVec 4
  | .ok => 0
  | .fault => 1
  | .timeout => 2
  | .malformed => 3
  | .window => 4
  | .access => 5
  | .fenced => 6
  | .flushed => 7
  | .halted => 8

/-- The 2-bit notes field of a response to a master (R158). -/
def noteField : Option Note → BitVec 2
  | none => 0
  | some .opened => 1
  | some .lent => 2
  | some .background => 3

/-- The four bytes of a slot entry (Table 10-2). -/
def slotEntryBytes (e : SlotEntry) : List Byte :=
  ((ownerCode e.owner <<< 4) ||| idlePolicyCode e.idle) :: twoBytes e.length ++ [byteOf e.cutoff]

/-- The bytes that a bank's signature covers: the slot-count byte, then the entries of slots 0 to S−1 in
index order (R4). -/
def signedBytes (slots : Nat) (entries : Vector SlotEntry 32) : List Byte :=
  byteOf slots :: (entries.toList.take slots).flatMap slotEntryBytes

/-- The signature of a bank's content (R4, R156). -/
def signatureOf (slots : Nat) (entries : Vector SlotEntry 32) : Half := crc (signedBytes slots entries)

/-- A bank's S and signature, result of the bank commands (Table 10-3). -/
def bankResult (b : Bank) : List Byte := byteOf b.slots :: halfBytes b.signature

/-- A window entry (Table 10-5). -/
def windowResult (w : Window) : List Byte :=
  [flagByte w.valid, accessCode w.access, byteOf w.account.val]
    ++ threeBytes w.base ++ threeBytes w.limit

/-- An account count, two's complement in four bytes (R155). -/
def countBytes (c : Int) : List Byte := quadBytes (BitVec.ofInt 32 c)

/-- An override: a presence byte, and the value or 0 (Table 10-4). -/
def overrideBytes (o : Option Nat) : List Byte := flagByte o.isSome :: twoBytes (o.getD 0)

/-- The account record (Table 10-4). -/
def accountResult (a : Account) : List Byte :=
  countBytes a.count ++ twoBytes a.preload
    ++ [byteOf a.period, byteOf a.countdown, parentCode a.parent, exhaustModeCode a.exhaust]
    ++ overrideBytes a.override

/-- The result of REFILL_NOW (Table 10-3). -/
def refillResult (a : Account) : List Byte := countBytes a.count ++ overrideBytes a.override

/-- A SET_PARAM identifier with the parameter's value in force (Table 10-3). -/
def parameterResult (identifier : Byte) (value : Nat) : List Byte := identifier :: fourBytes value

/-- The number of ABANDONED entries (R108). -/
def abandonedCount (issue : List Entry) : Nat := issue.countP (·.state == .abandoned)

/-- The port states packed two bits each, P0 lowest (Table 10-6). -/
def portStatesByte (ports : Vector PortUnit 4) : Byte :=
  portStateCode ports[0].state ||| (portStateCode ports[1].state <<< 2)
    ||| (portStateCode ports[2].state <<< 4) ||| (portStateCode ports[3].state <<< 6)

/-- The status block (Table 10-6). -/
def statusResult (s : State) : List Byte :=
  [modeCode s.mode,
   byteOf s.calendar.active.val ||| (flagByte s.calendar.pendingSwitch <<< 1)
     ||| (flagByte s.pendingDisengage <<< 2)]
    ++ halfBytes s.calendar.frame
    ++ [byteOf s.calendar.slot.val]
    ++ twoBytes s.calendar.ticks
    ++ [portStatesByte s.ports,
        byteOf s.ports[0].queue.length, byteOf s.ports[1].queue.length,
        byteOf s.ports[2].queue.length, byteOf s.ports[3].queue.length,
        (byteOf s.memory.issue.length <<< 4) ||| byteOf (abandonedCount s.memory.issue),
        byteOf s.events.queue.length, byteOf s.events.pendingLoss]

/-- The presence byte of an event record (Table 10-7). -/
def presenceByte (r : Report) : Byte :=
  flagByte r.port.isSome ||| (flagByte r.account.isSome <<< 1)
    ||| (flagByte r.address.isSome <<< 2) ||| (flagByte r.detail.isSome <<< 3)

/-- An event record with the number of records held (Table 10-7). -/
def eventResult (e : Event) (held : Nat) : List Byte :=
  halfBytes e.sequence
    ++ [byteOf (eventKindCode e.report.kind), byteOf e.lostBefore]
    ++ halfBytes e.position.frame
    ++ [byteOf e.position.slot.val, presenceByte e.report,
        byteOf ((e.report.port.map Fin.val).getD 0), byteOf ((e.report.account.map Fin.val).getD 0)]
    ++ quadBytes (e.report.address.getD 0)
    ++ [e.report.detail.getD 0, byteOf held]

/-- The result of ACK_EVENT: records held, and the oldest sequence number if any remains (Table 10-3). -/
def ackResult (queue : List Event) : List Byte :=
  byteOf queue.length :: flagByte queue.head?.isSome
    :: halfBytes ((queue.head?.map Event.sequence).getD 0)

/-- The beat part of a port's statistics (Table 10-8). -/
def beatsResult (p : PortStats) : List Byte :=
  quadBytes p.passBeats ++ quadBytes p.inBudgetBeats ++ quadBytes p.lentBeats
    ++ quadBytes p.backgroundBeats

/-- The exception part of a port's statistics (Table 10-8). -/
def exceptionsResult (p : PortStats) : List Byte := quadBytes p.refusals ++ quadBytes p.spills

/-- The statistics of an account (Table 10-8). -/
def accountStatsResult (a : AccountStats) : List Byte :=
  quadBytes a.charged ++ fourBytes a.exhaustions

/-- The result field of a response: the given bytes, then zeros to byte 21 (R146, R155). -/
def padResult (bytes : List Byte) : List Byte :=
  bytes ++ List.replicate (Config.resultBytes - bytes.length) 0

/-- The 24 bytes of a response, with its CRC (R146). -/
def responseBytes (r : Response) : List Byte :=
  let body := linkStatusCode r.status :: r.tag :: r.code :: r.result
  body ++ halfBytes (crc body)

/-- Bit `i` of a response as it is shifted out: its 24 bytes, byte 0 first and most significant bit first, and low
past the 24th byte (R143). -/
def ldoBit (r : Response) (i : Nat) : Bool := (spreadBytes (responseBytes r)).getD i false

/-- The bits that LDO carries in `n` LCK periods while a response is shifted out (R143). -/
def ldoBits (r : Response) (n : Nat) : List Bool := (List.range n).map (ldoBit r)

end Sys2Proof.Machine
end

