-- ==== Sys2Proof/Machine/Flags.lean ====
section
/-! DEFINITION. Every condition that the rules test: the form of a transaction, the acceptance steps
that hold an arrival off, the window search, chains and the in-budget test, closing, the alert
judgement, room in the issue list, the drain, and which occurrences are due. -/

namespace Sys2Proof.Machine

/-! ### Transactions and ports -/

/-- A transaction is malformed when its address is no multiple of 8 or it crosses a block boundary (R43). -/
def malformed (t : Txn) : Bool :=
  t.address.toNat % 8 != 0 || 1024 < t.address.toNat % 1024 + 8 * t.beats

/-- The block number of an address (R43). -/
def blockOf (t : Txn) : Nat := t.address.toNat / 1024

/-- A record is answerable in state DONE or REFUSED (R48). -/
def answerable (r : Record) : Bool :=
  match r.state with
  | .done _ | .refused _ => true
  | .waiting | .issued => false

/-- A record in state WAITING (R48). -/
def isWaiting (r : Record) : Bool := r.state == .waiting

/-- A port's candidate is its oldest record in state WAITING (R49). -/
def candidate (u : PortUnit) : Option Record := u.queue.find? isWaiting

/-- Steps 1 and 2 of the acceptance rule: the arrival is held off (R45). -/
def holdsOff (mode : Mode) (u : PortUnit) : Bool :=
  u.state == .quiescing || u.state == .quiesced || Config.portQueueCapacity ≤ u.queue.length
    || mode == .engaging

/-! ### Windows -/

/-- A window covers a block number (R65). -/
def covers (w : Window) (block : Nat) : Bool := w.valid && w.base ≤ block && block ≤ w.limit

/-- A window permits a kind (R65). -/
def permits (w : Window) (k : Kind) : Bool :=
  match w.access, k with
  | .both, _ => true
  | .read, .read => true
  | .write, .write => true
  | .read, .write => false
  | .write, .read => false

/-- The window indices in the order of the search, W0 first (R67). -/
def windowOrder : List WindowIx := [0, 1, 2, 3, 4, 5, 6, 7]

/-- The outcome of a classification (R67). -/
inductive Verdict where
  | miss
  | denied (w : WindowIx)
  | admitted (w : WindowIx) (a : AccountIx)
  deriving DecidableEq, Repr

/-- The first covering window of the port, in index order, decides (R67). -/
def classify (ws : Vector Window 8) (t : Txn) : Verdict :=
  match windowOrder.find? fun i => covers ws[i] (blockOf t) with
  | none => .miss
  | some i => if permits ws[i] t.kind then .admitted i ws[i].account else .denied i

/-! ### Accounts -/

/-- The chain of an account, followed for at most `fuel` accounts (R23). -/
def chainFrom (accounts : Vector Account 8) : Nat → AccountIx → List AccountIx
  | 0, _ => []
  | fuel + 1, a =>
    a :: match accounts[a].parent with
      | none => []
      | some p => chainFrom accounts fuel p

/-- The chain of an account: itself, its parent, and so on; at most eight accounts (R23). -/
def chain (accounts : Vector Account 8) (a : AccountIx) : List AccountIx := chainFrom accounts 8 a

/-- A record is in-budget when every account on its chain has a count of 1 or more (R24). -/
def inBudget (accounts : Vector Account 8) (a : AccountIx) : Bool :=
  (chain accounts a).all fun x => 1 ≤ accounts[x].count

/-- The class of a candidate in ENGAGED mode (R87). -/
inductive Standing where
  | inBudget
  | background
  | held
  deriving DecidableEq, Repr

/-- The class of a record; a record that carries no account is never judged (R24, R87; assumption 17). -/
def standing (accounts : Vector Account 8) (r : Record) : Standing :=
  match r.account with
  | none => .held
  | some a =>
    if inBudget accounts a then .inBudget
    else match accounts[a].exhaust with
      | .background => .background
      | .wait => .held

/-- A parent would close a cycle when the named account lies on the parent's chain (R36). -/
def closesCycle (accounts : Vector Account 8) (a : AccountIx) : Option AccountIx → Bool
  | none => false
  | some p => (chain accounts p).contains a

/-! ### Calendar -/

/-- The active bank (R5). -/
def activeBank (c : Calendar) : Bank := c.banks[c.active]

/-- The other bank number. -/
def otherBank (b : BankIx) : BankIx := if b = 0 then 1 else 0

/-- The bank that the selector does not name (R5). -/
def stagingBank (c : Calendar) : Bank := c.banks[otherBank c.active]

/-- The entry of the current slot (R10). -/
def currentSlot (c : Calendar) : SlotEntry := (activeBank c).entries[c.slot]

/-- The current slot is closing (R13). -/
def closing (c : Calendar) : Bool := c.ticks ≤ (currentSlot c).cutoff

/-- The frame number and slot index as the calendar holds them (R10). -/
def positionOf (c : Calendar) : Position := ⟨c.frame, c.slot⟩

/-- The mode is ENGAGING or ENGAGED. -/
def engagingOrEngaged (m : Mode) : Bool := m == .engaging || m == .engaged

/-! ### Memory-side port -/

/-- The issue list has room: it holds fewer than D entries (R78). -/
def hasRoom (m : MemorySide) : Bool := m.issue.length < m.depth

/-- An entry waits for its completion (Table 6-1). -/
def waitsForCompletion (e : Entry) : Bool := e.state == .waiting

/-- An entry has reached a timeout limit that is not 0 (R104). -/
def timeoutDue (e : Entry) : Bool := e.state == .waiting && e.limit != 0 && e.limit ≤ e.ticks

/-! ### Events -/

/-- A kind is in the alert mask: bit n stands for kind code n (R136, section 10.3). -/
def inMask (mask : BitVec 13) (k : EventKind) : Bool := mask.getLsbD (eventKindCode k)

/-- ALERT# is asserted while the queue holds a record whose kind is in the mask (R137). -/
def alertJudged (queue : List Event) (mask : BitVec 13) : Bool :=
  queue.any fun e => inMask mask e.report.kind

/-! ### What is due (assumption 2) -/

/-- The next tick takes the ticks remaining to 0, so that the slot expires in it (R12). -/
def slotEnds (s : State) : Bool := s.mode == .engaged && s.calendar.ticks ≤ 1

/-- The current slot is below S−1 (R14). -/
def belowLastSlot (c : Calendar) : Bool := c.slot.val + 1 < (activeBank c).slots

/-- Every port queue is empty and no entry waits for completion (R118). -/
def drained (s : State) : Bool :=
  s.ports.toList.all (·.queue.isEmpty) && s.memory.issue.all (fun e => !waitsForCompletion e)

/-- The drain that ENGAGING waits for is complete (R118). -/
def drainDue (s : State) : Bool := s.mode == .engaging && drained s

/-- The port holds an arrival off that the acceptance rule no longer holds off (R44). -/
def heldDue (s : State) (p : Port) : Bool :=
  s.ports[p].arrival.isSome && !holdsOff s.mode s.ports[p]

/-- The four ports, P0 first. -/
def allPorts : List Port := [0, 1, 2, 3]

/-- Nothing is due: every occurrence that the rules join to an earlier one has come about. -/
def settled (s : State) : Bool :=
  s.memory.issue.all (fun e => !timeoutDue e) && !drainDue s && allPorts.all (fun p => !heldDue s p)

/-! ### Service link -/

/-- A transfer can begin or end: RESET# is released, and either a transfer is in progress or LSEL# is
high, so that it can fall (R143, R154). -/
def linkOpen (s : State) : Bool := !s.inReset && (s.link.shifting.isSome || !s.link.lselLow)

end Sys2Proof.Machine
end

