-- ==== Sys2Proof/Machine/Ops.lean ====
section
/-! DEFINITION. The operations that the commands share: the named updates of State, storing an event,
answering, the selector, charging and refilling, the acceptance of an arrival, the slot and frame
machinery, entering ENGAGED and HALTED, timing out, and the frame in which each kind of command runs. -/

namespace Sys2Proof.Machine

/-- Apply a function to every entry of a table. -/
def mapEntries {α β : Type} {n : Nat} (f : α → β) (v : Vector α n) : Vector β n :=
  ⟨⟨v.toArray.toList.map f⟩, by simp⟩

/-! ### Named updates -/

/-- Replace one port. -/
def setPort (s : State) (p : Port) (u : PortUnit) : State := { s with ports := s.ports.set p u }

/-- Replace one port's queue. -/
def setQueue (s : State) (p : Port) (q : List Record) : State :=
  setPort s p { s.ports[p] with queue := q }

/-- Replace one port's state. -/
def setPortState (s : State) (p : Port) (st : PortState) : State :=
  setPort s p { s.ports[p] with state := st }

/-- Replace the arrival that one port holds off. -/
def setArrival (s : State) (p : Port) (t : Option Txn) : State :=
  setPort s p { s.ports[p] with arrival := t }

/-- Replace one account. -/
def setAccount (s : State) (a : AccountIx) (x : Account) : State :=
  { s with accounts := s.accounts.set a x }

/-- Change one port's statistics. -/
def countPort (s : State) (p : Port) (f : PortStats → PortStats) : State :=
  { s with portStats := s.portStats.set p (f s.portStats[p]) }

/-- Change one account's statistics. -/
def countAccount (s : State) (a : AccountIx) (f : AccountStats → AccountStats) : State :=
  { s with accountStats := s.accountStats.set a (f s.accountStats[a]) }

/-- Replace the outstanding offer. -/
def setOffer (s : State) (o : Option Offer) : State := { s with offer := o }

/-- Replace the issue list. -/
def setIssue (s : State) (l : List Entry) : State :=
  { s with memory := { s.memory with issue := l } }

/-- Replace the calendar. -/
def setCalendar (s : State) (c : Calendar) : State := { s with calendar := c }

/-- Replace the event unit. -/
def setEvents (s : State) (e : EventUnit) : State := { s with events := e }

/-- Replace the service link. -/
def setLink (s : State) (l : Link) : State := { s with link := l }

/-- Replace the outputs. -/
def setOutputs (s : State) (o : Outputs) : State := { s with outputs := o }

/-- The outputs belong to one command: a command starts with none driven (assumption 6). -/
def begin (s : State) : State := setOutputs s .silent

/-! ### Events (R130, R131, R137) -/

/-- The event unit stores a reported event, or drops it when the queue holds 32 records, and judges the
alert line again. -/
def storeIn (u : EventUnit) (at_ : Position) (r : Report) : EventUnit :=
  if u.queue.length < Config.eventQueueCapacity then
    let queue := u.queue ++ [⟨u.nextSequence, u.pendingLoss, at_, r⟩]
    { u with
      queue
      nextSequence := u.nextSequence + 1
      pendingLoss := 0
      alert := alertJudged queue u.mask }
  else { u with pendingLoss := min (u.pendingLoss + 1) Config.lossCeiling }

/-- A block reports an event; it carries the calendar's position at that moment (R130). -/
def report (s : State) (r : Report) : State :=
  setEvents s (storeIn s.events (positionOf s.calendar) r)

/-- MODE_CHANGE, whose detail byte is the new mode (R116). -/
def reportMode (s : State) : State :=
  report s { kind := .modeChange, detail := some (modeCode s.mode) }

/-- The mode changes, and MODE_CHANGE is produced (R116). -/
def enterMode (s : State) (m : Mode) : State := reportMode { s with mode := m }

/-! ### Answering (R50, R51, R55) -/

/-- The status of a settled record. A record that is not answerable is never answered. -/
def statusOf (r : Record) : Status :=
  match r.state with
  | .done st | .refused st => st
  | .waiting | .issued => .ok

/-- The response to a record: its status, its note, and its read data (R51). -/
def answerOf (r : Record) : Answer := ⟨statusOf r, r.note, r.readData⟩

/-- Send answers to a master. -/
def sendAnswers (s : State) (p : Port) (answers : List Answer) : State :=
  setOutputs s { s.outputs with
    answers := s.outputs.answers.set p (s.outputs.answers[p] ++ answers) }

/-- A QUIESCING port whose queue is empty becomes QUIESCED and produces PORT_QUIESCED (R55). -/
def quiesceIfEmpty (s : State) (p : Port) : State :=
  if s.ports[p].state == .quiescing && s.ports[p].queue.isEmpty then
    report (setPortState s p .quiesced) { kind := .portQuiesced, port := some p }
  else s

/-- The port answers the run of answerable records at its front, in queue order (R50). -/
def answerFront (s : State) (p : Port) : State :=
  let q := s.ports[p].queue
  quiesceIfEmpty
    (sendAnswers (setQueue s p (q.dropWhile answerable)) p ((q.takeWhile answerable).map answerOf)) p

/-! ### The selector (chapter 5) -/

/-- The order of a rotation search that starts at the pointer (R83). -/
def rotationFrom (pointer : Port) : List Port := [pointer, pointer + 1, pointer + 2, pointer + 3]

/-- The offer of a port's candidate on given grounds, if the port has a candidate of that class. -/
def offerOf (s : State) (grounds : Grounds) (rotation : Bool) (p : Port)
    (admits : Record → Bool) : Option Offer :=
  match candidate s.ports[p] with
  | none => none
  | some r => if admits r then some ⟨p, r.serial, grounds, rotation⟩ else none

/-- The first port of a list whose candidate is admitted. -/
def search (s : State) (grounds : Grounds) (order : List Port) (admits : Record → Bool) :
    Option Offer :=
  order.findSome? fun p => offerOf s grounds true p admits

/-- The record is in-budget (R87). -/
def isInBudget (s : State) (r : Record) : Bool := standing s.accounts r == .inBudget

/-- The record is a background candidate (R87). -/
def isBackground (s : State) (r : Record) : Bool := standing s.accounts r == .background

/-- The order of choice in an owned slot (R88, R89). -/
def chooseOwned (s : State) (p : Port) (idle : IdlePolicy) : Option Offer :=
  let rotation := rotationFrom s.pointer
  match idle with
  | .lend =>
    offerOf s .owner false p (isInBudget s)
      <|> search s .lent (rotation.filter (· != p)) (isInBudget s)
      <|> search s .background rotation (isBackground s)
  | .hold =>
    offerOf s .owner false p (isInBudget s) <|> offerOf s .background false p (isBackground s)

/-- The order of choice in an OPEN slot (R90). -/
def chooseOpen (s : State) : Option Offer :=
  search s .opened (rotationFrom s.pointer) (isInBudget s)
    <|> search s .background (rotationFrom s.pointer) (isBackground s)

/-- The order of choice of the present mode and slot (R84 to R90). -/
def choose (s : State) : Option Offer :=
  match s.mode with
  | .pass | .engaging => search s .pass (rotationFrom s.pointer) fun _ => true
  | .halted => none
  | .engaged =>
    if closing s.calendar then none
    else match (currentSlot s.calendar).owner with
      | .quiet => none
      | .everyPort => chooseOpen s
      | .port p => chooseOwned s p (currentSlot s.calendar).idle

/-- The selector makes an offer as soon as the list has room, no offer is outstanding, and the order of
choice names a candidate (R79). -/
def makeOffer (s : State) : State :=
  if s.offer.isNone && hasRoom s.memory then setOffer s (choose s) else s

/-- Withdraw the outstanding offer (R82). -/
def withdraw (s : State) : State := setOffer s none

/-- The record of a port with a given serial. -/
def findRecord (s : State) (p : Port) (serial : Nat) : Option Record :=
  s.ports[p].queue.find? (·.serial == serial)

/-- The offered record's class is the one its grounds require (R92). -/
def groundsHold (s : State) (o : Offer) : Bool :=
  match o.grounds with
  | .pass => true
  | .owner | .lent | .opened => (findRecord s o.port o.serial).any (isInBudget s)
  | .background => (findRecord s o.port o.serial).any (isBackground s)

/-- After an account report the offered record is judged again, and the selector chooses again if the
offer no longer stands (R92). -/
def rejudge (s : State) : State :=
  makeOffer (match s.offer with
    | none => s
    | some o => if groundsHold s o then s else withdraw s)

/-! ### Records -/

/-- Change the record with a given serial, in its place. -/
def changeRecord (q : List Record) (serial : Nat) (f : Record → Record) : List Record :=
  q.map fun r => if r.serial = serial then f r else r

/-- Change one record of a port. -/
def changeIn (s : State) (p : Port) (serial : Nat) (f : Record → Record) : State :=
  setQueue s p (changeRecord s.ports[p].queue serial f)

/-- A record in state WAITING is settled with a status that no take preceded: FLUSHED or HALTED
(R54, R123). -/
def settleWaiting (st : Status) (r : Record) : Record :=
  if isWaiting r then { r with state := .done st } else r

/-! ### Acceptance of an arrival (R45, R46) -/

/-- Append a new record at the tail of a port's queue. -/
def appendRecord (s : State) (p : Port) (t : Txn) (state : RecordState)
    (account : Option AccountIx) (window : Option WindowIx) : State :=
  let r : Record := ⟨s.serial, t, account, window, state, none, none, none⟩
  { setQueue s p (s.ports[p].queue ++ [r]) with serial := s.serial + 1 }

/-- Append a record REFUSED and count the refusal (R46). -/
def appendRefused (s : State) (p : Port) (t : Txn) (st : Status) (window : Option WindowIx) : State :=
  countPort (appendRecord s p t (.refused st) none window) p
    fun x => { x with refusals := x.refusals + 1 }

/-- An ACTIVE port whose strike count has reached a fence limit that is not 0 is fenced (R61). -/
def fenceTest (s : State) (p : Port) : State :=
  let u := s.ports[p]
  if s.fenceLimit != 0 && s.fenceLimit ≤ u.strikes && u.state == .active then
    report (setPortState s p .fenced)
      { kind := .portFenced, port := some p, detail := some (byteOf u.strikes) }
  else s

/-- A strike: the count rises by one, up to 15, and the fence test is applied (R46, R59). -/
def strike (s : State) (p : Port) : State :=
  let u := s.ports[p]
  fenceTest (setPort s p { u with strikes := min (u.strikes + 1) Config.strikeCeiling }) p

/-- A refusal in ENGAGED mode: the record, the refusal's event, then the strike (R46, R68, R69). No command comes
between the events of one operation (assumption 19). -/
def refuseWithStrike (s : State) (p : Port) (t : Txn) (st : Status) (window : Option WindowIx)
    (r : Report) : State :=
  strike (report (appendRefused s p t st window) r) p

/-- The refusal event of a transaction: its port and address (R46, R68, R69). -/
def refusalReport (kind : EventKind) (p : Port) (t : Txn) (detail : Option Byte) : Report :=
  { kind, port := some p, address := some t.address, detail }

/-- Step 7: the window table decides (R67). -/
def decideByWindows (s : State) (p : Port) (t : Txn) : State :=
  match classify s.windows[p] t with
  | .miss => refuseWithStrike s p t .window none (refusalReport .windowMiss p t none)
  | .denied w =>
    refuseWithStrike s p t .access (some w)
      (refusalReport .accessDenied p t (some (byteOf w.val)))
  | .admitted w a => appendRecord s p t .waiting (some a) (some w)

/-- Steps 3 to 7 of the acceptance rule, for an arrival that is not held off (R45). -/
def acceptSteps (s : State) (p : Port) (t : Txn) : State :=
  if s.mode = .halted then appendRefused s p t .halted none
  else if s.ports[p].state = .fenced then appendRefused s p t .fenced none
  else if malformed t then
    if s.mode = .engaged then
      refuseWithStrike s p t .malformed none (refusalReport .malformed p t none)
    else appendRefused s p t .malformed none
  else if s.mode = .engaged then decideByWindows s p t
  else appendRecord s p t .waiting none none

/-- The port takes an arrival; a record that is answerable at the front is answered at once, and the
selector is told of a new candidate (R45, R46, R49). -/
def accept (s : State) (p : Port) (t : Txn) : State :=
  makeOffer (answerFront (acceptSteps s p t) p)

/-- A held arrival that is no longer held off is taken (R44). -/
def takeHeld (s : State) (p : Port) : State :=
  match s.ports[p].arrival with
  | none => s
  | some t => if holdsOff s.mode s.ports[p] then s else accept (setArrival s p none) p t

/-! ### Charging and refilling (chapter 2) -/

/-- A refill (R30). -/
def refill (a : Account) : Account :=
  match a.override with
  | some v => { a with count := v, override := none }
  | none => if a.count < 0 then { a with count := a.preload + a.count } else { a with count := a.preload }

/-- A charge of one account of the chain: its count, its statistics, and ACCOUNT_EXHAUSTED when the
charge crosses from 1 or more to 0 or below (R27, R28, R139). -/
def chargeOne (beats : Nat) (s : State) (a : AccountIx) : State :=
  let x := s.accounts[a]
  let left := x.count - beats
  let s := countAccount (setAccount s a { x with count := left }) a
    fun y => { y with charged := y.charged + BitVec.ofNat 32 beats }
  if 1 ≤ x.count ∧ left ≤ 0 then
    report (countAccount s a
        fun y => { y with exhaustions := min (y.exhaustions + 1) Config.exhaustionsCeiling })
      { kind := .accountExhausted, account := some a }
  else s

/-- A charge of a record's chain, in chain order (R27, R28). No command comes between its events
(assumption 19). -/
def charge (s : State) (a : AccountIx) (beats : Nat) : State :=
  (chain s.accounts a).foldl (chargeOne beats) s

/-- The countdown of one account at a frame boundary (R31). -/
def countDown (a : Account) : Account :=
  if a.countdown - 1 = 0 then { refill a with countdown := a.period }
  else { a with countdown := a.countdown - 1 }

/-- The refill of one account on entering ENGAGED (R33). -/
def engageRefill (a : Account) : Account := { refill a with countdown := a.period }

/-- Clear every port's strike count (R59). -/
def clearStrikes (s : State) : State :=
  { s with ports := mapEntries (fun u => { u with strikes := 0 }) s.ports }

/-! ### Slots and frames (chapter 1) -/

/-- A slot of the active bank starts (R11, R14). -/
def startSlot (c : Calendar) (i : SlotIx) : Calendar :=
  { c with slot := i, ticks := (activeBank c).entries[i].length }

/-- The slot after an index. -/
def nextSlot (i : SlotIx) : SlotIx := if h : i.val + 1 < 32 then ⟨i.val + 1, h⟩ else 0

/-- A slot below S−1 expires: its offer is withdrawn, the next slot starts, and the selector chooses for
it at once (R14, R82, R86). -/
def expireSlot (s : State) : State :=
  makeOffer (setCalendar (withdraw s) (startSlot s.calendar (nextSlot s.calendar.slot)))

/-- What every frame boundary does: the offer is withdrawn, the frame number advances, the accounts
count down and refill, and the strike counts clear (R15, R31, R59, R82). -/
def boundaryCommon (s : State) : State :=
  clearStrikes
    { setCalendar (withdraw s) { s.calendar with frame := s.calendar.frame + 1 } with
      accounts := mapEntries countDown s.accounts }

/-- A pending disengage is taken: the calendar stops, a pending switch is dropped, and the mode becomes
PASS (R19, R121). -/
def takeDisengage (s : State) : State :=
  let switching := s.calendar.pendingSwitch
  let s := { setCalendar s { s.calendar with slot := 0, ticks := 0, pendingSwitch := false } with
    pendingDisengage := false }
  let s := if switching then
      report s { kind := .switchDropped, detail := some (byteOf s.calendar.active.val) }
    else s
  enterMode s .pass

/-- A pending switch is taken: slot 0 of the new active bank starts, and SWITCH_DONE is produced (R17). -/
def takeSwitch (s : State) : State :=
  let active := otherBank s.calendar.active
  report (setCalendar s (startSlot { s.calendar with active, pendingSwitch := false } 0))
    { kind := .switchDone, detail := some (byteOf active.val) }

/-- A frame boundary (R15): the common effects, then a pending disengage, else a pending switch, else
slot 0 of the active bank. -/
def boundary (s : State) : State :=
  let s := boundaryCommon s
  makeOffer
    (if s.pendingDisengage then takeDisengage s
    else if s.calendar.pendingSwitch then takeSwitch s
    else setCalendar s (startSlot s.calendar 0))

/-- The current slot expires: the next slot starts, or a frame boundary occurs (R12). -/
def expire (s : State) : State := if belowLastSlot s.calendar then expireSlot s else boundary s

/-- A tick adds one to the tick count of an entry that waits for its completion (R98). -/
def countTick (e : Entry) : Entry :=
  if waitsForCompletion e then { e with ticks := min (e.ticks + 1) Config.tickCountCeiling } else e

/-- The calendar takes one from the ticks remaining. Where that leaves 0, the slot expires in the same tick;
otherwise the offer is withdrawn when the slot is then closing (R12, R13, R82). -/
def tickCalendar (s : State) : State :=
  if s.calendar.ticks ≤ 1 then expire s
  else
    let s := setCalendar s { s.calendar with ticks := s.calendar.ticks - 1 }
    if closing s.calendar then withdraw s else s

/-- A tick goes to the memory-side port in every mode, and to the calendar while ENGAGED (R1). -/
def tickBoth (s : State) : State :=
  let s := setIssue s (s.memory.issue.map countTick)
  if s.mode = .engaged then tickCalendar s else s

/-! ### Mode changes (chapter 7) -/

/-- The drain completes and the mode becomes ENGAGED: the calendar starts at frame 0, slot 0, every
account is refilled, and every strike count becomes 0 (R119, R11, R33, R59). -/
def enterEngaged (s : State) : State :=
  let s := setCalendar s (startSlot { s.calendar with frame := 0 } 0)
  makeOffer (enterMode (clearStrikes { s with accounts := mapEntries engageRefill s.accounts }) .engaged)

/-- A list in the order that a number names: the number's remainder places the first element among the
others, and its quotient orders those. -/
def arrange {α : Type} : Nat → List α → List α
  | _, [] => []
  | _, [x] => [x]
  | k, x :: xs => (arrange (k / (xs.length + 1)) xs).insertIdx (k % (xs.length + 1)) x

/-- The port is QUIESCING and every record it holds is answerable, so that its answers will make it
QUIESCED. -/
def aboutToQuiesce (s : State) (p : Port) : Bool :=
  s.ports[p].state == .quiescing && s.ports[p].queue.all answerable

/-- Every port answers its front. Ports that become QUIESCED by it do so in an order that the manual
leaves open (R130; assumption 4). -/
def answerAll (s : State) : State :=
  let ending := allPorts.filter (aboutToQuiesce s)
  let others := allPorts.filter fun p => !aboutToQuiesce s p
  let s' := (others ++ arrange (Config.quiescedOrder s.choices) ending).foldl answerFront s
  { s' with choices := s.choices + 1 }

/-- The number of WAITING records in every queue. -/
def waitingCount (s : State) : Nat :=
  (allPorts.map fun p => s.ports[p].queue.countP isWaiting).sum

/-- The mode becomes HALTED, from another mode (R122, R123): both pending flags are cleared, the offer
is withdrawn, every WAITING record is settled HALTED, the ports answer their fronts, and MODE_CHANGE is
produced, after the PORT_QUIESCED of those answers (assumption 9). -/
def enterHalted (s : State) : State :=
  let s := { setCalendar (withdraw s) { s.calendar with pendingSwitch := false } with
    mode := .halted, pendingDisengage := false }
  let s := { s with
    ports := mapEntries (fun u => { u with queue := u.queue.map (settleWaiting .halted) }) s.ports }
  reportMode (answerAll s)

/-! ### Timeouts (R104, R107) -/

/-- The event of a timeout or of a FAULT completion: the port, and the record's address, account and
window index, each if the record carries it (R103, R104). A record classified in ENGAGED and taken in PASS or
ENGAGING carries both still (R84), and its event has them: the model's reading of R103 (assumption 14). -/
def downstreamReport (kind : EventKind) (p : Port) (r : Option Record) : Report where
  kind
  port := some p
  account := r.bind Record.account
  address := r.map (·.txn.address)
  detail := (r.bind Record.window).map fun w => byteOf w.val

/-- Abandon the oldest entry whose timeout is due (R104). -/
def abandonFirst : List Entry → List Entry
  | [] => []
  | e :: es =>
    if timeoutDue e then { e with state := .abandoned, record := none } :: es
    else e :: abandonFirst es

/-- Settle the record that an entry serves, if the entry still serves one. -/
def settleRecord (s : State) (e : Entry) (f : Record → Record) : State :=
  match e.record with
  | none => s
  | some serial => changeIn s e.port serial f

/-- The record that an entry serves. -/
def recordOf (s : State) (e : Entry) : Option Record := e.record.bind (findRecord s e.port)

/-- One timeout: the oldest due entry's record is settled TIMEOUT, the entry is abandoned,
DOWNSTREAM_TIMEOUT is produced, and the fault action is applied (R104, R107, R125). -/
def timeOut (s : State) : State :=
  match s.memory.issue.find? timeoutDue with
  | none => s
  | some e =>
    let s' := settleRecord (setIssue s (abandonFirst s.memory.issue)) e
      fun r => { r with state := .done .timeout }
    let s' := report s' (downstreamReport .downstreamTimeout e.port (recordOf s e))
    if s.memory.faultAction = .halt ∧ s.mode ≠ .halted then enterHalted s'
    else makeOffer (answerFront s' e.port)

/-- Time out entries, oldest first, for at most the given number of times. -/
def timeOutAll : Nat → State → State
  | 0, s => s
  | n + 1, s => timeOutAll n (timeOut s)

/-! ### What comes about before the next command (assumption 2) -/

/-- Every occurrence that is due comes about: the timeouts of entries that reached their limits, the end of a
complete drain, and the taking of arrivals that are no longer held off (R44, R104, R118). The order among them is the model's (assumption 16). -/
def settle (s : State) : State :=
  let s := timeOutAll s.memory.issue.length s
  let s := if drainDue s then enterEngaged s else s
  allPorts.foldl takeHeld s

/-- A command of the memory bus or the time base: nothing happens while RESET# is asserted, and what is
due comes about first. -/
def onBus (s : State) (act : State → State) : State :=
  if s.inReset then begin s else act (settle (begin s))

/-- A row that names an occurrence itself: it comes about if it is due, and otherwise nothing happens. -/
def whenDue (s : State) (due : State → Bool) (act : State → State) : State :=
  if !s.inReset && due s then act (begin s) else begin s

/-! ### The service link (chapter 9) -/

/-- LDO from the fall of LSEL# that begins a transfer: it is driven, and shows the response's first bit (R159). -/
def firstShown : Option Response → Pin
  | none => .highImpedance
  | some r => .driven (ldoBit r 0)

/-- LSEL# falls and a transfer begins: the held response is given up, to be shifted out, and its first bit is
presented at the fall (R143, R147, R159). -/
def openTransfer (s : State) : State :=
  match s.link.shifting with
  | some _ => s
  | none =>
    setLink (setOutputs s { s.outputs with presented := s.link.held.map (ldoBit · 0) })
      ⟨true, s.link.held, none, firstShown s.link.held⟩

/-- LSEL# stands at a level, true for low, outside a transfer. LDO is high impedance while LSEL# is high (Table 10-10);
what it shows while LSEL# is low the manual does not say, and it is a free value (assumption 20). -/
def outsideTransfer (s : State) (low : Bool) : State :=
  { s with
    link := { s.link with
      lselLow := low
      ldo := if low then Config.ldoOutsideTransfer s.choices else .highImpedance }
    choices := if low then s.choices + 1 else s.choices }

/-- The bits that LDO carries in a transfer of `n` LCK periods that shifts a response out. -/
def shiftedOut (r : Option Response) (n : Nat) : List Bool :=
  match r with
  | none => []
  | some r => ldoBits r n

/-- LSEL# rises after `n` LCK periods and the transfer ends: LDO has carried the response given up and is high
impedance again, and the next held response is formed (R143, R147, Table 10-10). -/
def closeTransfer (s : State) (n : Nat) (r : Response) : State :=
  setLink (setOutputs s { s.outputs with ldo := shiftedOut s.link.shifting n })
    ⟨false, none, some r, .highImpedance⟩

/-- What a block makes of a command: the state after it, the status, and the result bytes it gives. -/
structure Reply where
  after : State
  status : LinkStatus
  result : List Byte

/-- The block refuses the command: it changes no state, and the result bytes are zero (R146, R149). -/
def refuse (s : State) (st : LinkStatus) : Reply := ⟨s, st, []⟩

/-- An operand out of range is refused BADVALUE; otherwise the block judges the command (R149). -/
def checked {α : Type} (operand : Option α) (s : State) (judge : α → Reply) : Reply :=
  match operand with
  | none => refuse s .badvalue
  | some x => judge x

/-- A transfer of `n` LCK periods that ends in a response of the link itself: the packet is not processed
(R144, R148, R149). -/
def onLink (s : State) (n : Nat) (r : Response) : State :=
  if linkOpen s then closeTransfer (openTransfer (begin s)) n r else begin s

/-- A complete transfer whose command is processed: what is due comes about first, the owning block
judges the command, and its response becomes the held response (R147, R149). A row met with no transfer
in progress stands for the whole transfer (assumption 3). The row lists the LDO bits of its 24 bytes; LDO is low
for every further bit (R143; assumption 11). -/
def serve (code tag : Byte) (s : State) (act : State → Reply) : State :=
  if linkOpen s then
    let reply := act (settle (openTransfer (begin s)))
    closeTransfer reply.after Config.packetBits ⟨reply.status, tag, code, padResult reply.result⟩
  else begin s

end Sys2Proof.Machine
end

