-- ==== Sys2Proof/Machine/AccountUnit.lean ====
section
/-! DEFINITION. The account unit's commands (section 2.6). -/

namespace Sys2Proof.Machine

/-- The four fields that WRITE_ACCOUNT carries replace those of the account; a parent that would close a
cycle is refused LOOP (R35, R36). The selector judges its offer afresh (R26, R92). -/
def describeAccount (a : AccountIx) (preload period : Nat) (parent : Option AccountIx)
    (exhaust : ExhaustMode) (s : State) : Reply :=
  if closesCycle s.accounts a parent then refuse s .loop
  else
    let x := { s.accounts[a] with preload, period, parent, exhaust }
    ⟨rejudge (setAccount s a x), .done, accountResult x⟩

/-- The parent operand of WRITE_ACCOUNT: an account other than the named one, or none (R35). -/
def parentFor? (a : AccountIx) (b : Byte) : Option (Option AccountIx) :=
  match parent? b with
  | some (some p) => if p = a then none else some (some p)
  | other => other

/-- WRITE_ACCOUNT (R35, R36). -/
def execWriteAccount (tag account : Byte) (preload : Half) (period parent exhaust : Byte) (s : State) :
    Host.Outcome State Fault Refusal :=
  .next <| serve 0x30 tag s fun s =>
    checked (account? account) s fun a =>
    checked (period? period) s fun n =>
    checked (parentFor? a parent) s fun p =>
    checked (exhaustMode? exhaust) s fun x =>
    describeAccount a preload.toNat n p x s

/-- READ_ACCOUNT (R40). -/
def execReadAccount (tag account : Byte) (s : State) : Host.Outcome State Fault Refusal :=
  .next <| serve 0x31 tag s fun s =>
    checked (account? account) s fun a => ⟨s, .done, accountResult s.accounts[a]⟩

/-- Replace an account's staged override (R38). -/
def overrideAccount (a : AccountIx) (o : Option Nat) (s : State) : Reply :=
  ⟨setAccount s a { s.accounts[a] with override := o }, .done, overrideBytes o⟩

/-- STAGE_OVERRIDE (R38). The flag byte 01h stages the value; the flag byte 00h would clear, and is the
row CLEAR_OVERRIDE; any other is refused BADVALUE. -/
def execStageOverride (tag account flag : Byte) (value : Half) (s : State) :
    Host.Outcome State Fault Refusal :=
  .next <| serve 0x32 tag s fun s =>
    checked (account? account) s fun a =>
    checked (flag? flag) s fun stage =>
    overrideAccount a (if stage then some value.toNat else none) s

/-- STAGE_OVERRIDE with a request to clear (R38). -/
def execClearOverride (tag account : Byte) (s : State) : Host.Outcome State Fault Refusal :=
  .next <| serve 0x32 tag s fun s =>
    checked (account? account) s fun a => overrideAccount a none s

/-- REFILL_NOW (R39): a refill outside the countdown, after which the selector judges its offer afresh. -/
def refillAtOnce (a : AccountIx) (s : State) : Reply :=
  if s.mode ≠ .engaged then refuse s .mode
  else
    let x := refill s.accounts[a]
    ⟨rejudge (setAccount s a x), .done, refillResult x⟩

/-- REFILL_NOW (R39). -/
def execRefillNow (tag account : Byte) (s : State) : Host.Outcome State Fault Refusal :=
  .next <| serve 0x33 tag s fun s => checked (account? account) s fun a => refillAtOnce a s

end Sys2Proof.Machine
end

