-- ==== Sys2Proof/Machine/CalendarUnit.lean ====
section
/-! DEFINITION. The slot calendar's commands (chapter 1): the tick, the expiry of a slot, the frame
boundary, the bank commands, SWITCH, CANCEL_SWITCH, and SET_PARAM for the tick divider. -/

namespace Sys2Proof.Machine

/-- TICK (R1, R12, R13, R98). A tick that ends a slot ends it in the same step. -/
def execTick (s : State) : Host.Outcome State Fault Refusal := .next (onBus s tickBoth)

/-- SLOT_EXPIRY (R12, R14): the tick in which a slot below S−1 expires. The ticks remaining reach 0 by a tick
alone, so the row is that tick, and where the next tick ends no such slot it changes nothing (assumption 2). -/
def execSlotExpiry (s : State) : Host.Outcome State Fault Refusal :=
  .next (onBus s fun s => if slotEnds s && belowLastSlot s.calendar then tickBoth s else s)

/-- FRAME_BOUNDARY (R12, R15, R17, R19, R31, R121): the tick in which slot S−1 expires (assumption 2). -/
def execFrameBoundary (s : State) : Host.Outcome State Fault Refusal :=
  .next (onBus s fun s => if slotEnds s && !belowLastSlot s.calendar then tickBoth s else s)

/-- Why a bank write is refused, if it is (R6). -/
def bankWriteRefusal (s : State) (b : BankIx) : Option LinkStatus :=
  if b = s.calendar.active ∧ engagingOrEngaged s.mode then some .banklive
  else if s.calendar.pendingSwitch then some .busy
  else none

/-- Replace a bank's slot count and entries and recompute its signature (R4). -/
def rewriteBank (c : Calendar) (b : BankIx) (slots : Nat) (entries : Vector SlotEntry 32) : Calendar :=
  { c with banks := c.banks.set b ⟨slots, entries, signatureOf slots entries⟩ }

/-- A bank write that has passed its operand checks (R6, R7, R8). -/
def writeBank (s : State) (b : BankIx) (slots : Nat) (entries : Vector SlotEntry 32) : Reply :=
  match bankWriteRefusal s b with
  | some st => refuse s st
  | none =>
    let c := rewriteBank s.calendar b slots entries
    ⟨setCalendar s c, .done, bankResult c.banks[b]⟩

/-- WRITE_BANK_HEADER (R7). -/
def execWriteBankHeader (tag bank slots : Byte) (s : State) : Host.Outcome State Fault Refusal :=
  .next <| serve 0x10 tag s fun s =>
    checked (bank? bank) s fun b =>
    checked (slotCount? slots) s fun n =>
    writeBank s b n s.calendar.banks[b].entries

/-- WRITE_SLOT (R8). -/
def execWriteSlot (tag bank index : Byte) (entry : Quad) (s : State) :
    Host.Outcome State Fault Refusal :=
  .next <| serve 0x11 tag s fun s =>
    checked (bank? bank) s fun b =>
    checked (slotIx? index) s fun i =>
    checked (slotEntry? entry) s fun e =>
    writeBank s b s.calendar.banks[b].slots (s.calendar.banks[b].entries.set i e)

/-- READ_BANK (R9). -/
def execReadBank (tag bank : Byte) (s : State) : Host.Outcome State Fault Refusal :=
  .next <| serve 0x12 tag s fun s =>
    checked (bank? bank) s fun b => ⟨s, .done, bankResult s.calendar.banks[b]⟩

/-- READ_SLOT (R9). -/
def execReadSlot (tag bank index : Byte) (s : State) : Host.Outcome State Fault Refusal :=
  .next <| serve 0x13 tag s fun s =>
    checked (bank? bank) s fun b =>
    checked (slotIx? index) s fun i =>
    ⟨s, .done, slotEntryBytes s.calendar.banks[b].entries[i]⟩

/-- SWITCH (R16): the mode, a pending switch, the staging bank's S and its signature are judged in that
order. -/
def requestSwitch (signature : Half) (s : State) : Reply :=
  if s.mode ≠ .engaged then refuse s .mode
  else if s.calendar.pendingSwitch then refuse s .busy
  else if (stagingBank s.calendar).slots = 0 then refuse s .badvalue
  else if (stagingBank s.calendar).signature ≠ signature then refuse s .signature
  else ⟨setCalendar s { s.calendar with pendingSwitch := true }, .accepted, []⟩

/-- SWITCH (R16). -/
def execSwitch (tag : Byte) (signature : Half) (s : State) : Host.Outcome State Fault Refusal :=
  .next <| serve 0x14 tag s (requestSwitch signature)

/-- CANCEL_SWITCH (R18). -/
def execCancelSwitch (tag : Byte) (s : State) : Host.Outcome State Fault Refusal :=
  .next <| serve 0x15 tag s fun s =>
    if s.calendar.pendingSwitch then
      ⟨setCalendar s { s.calendar with pendingSwitch := false }, .done, []⟩
    else refuse s .notpending

/-- SET_PARAM naming the tick divider (R2). -/
def execSetTickDivider (tag : Byte) (value : Quad) (s : State) : Host.Outcome State Fault Refusal :=
  .next <| serve 0x60 tag s fun s =>
    checked (ranged? 1 65536 value) s fun n =>
      if engagingOrEngaged s.mode then ⟨s, .mode, parameterResult 0x01 s.calendar.divider⟩
      else ⟨setCalendar s { s.calendar with divider := n }, .done, parameterResult 0x01 n⟩

end Sys2Proof.Machine
end

