-- ==== Sys2Proof/Machine/EventCommands.lean ====
section
/-! DEFINITION. The event unit's and the statistics' commands (chapter 8). -/

namespace Sys2Proof.Machine

/-- READ_EVENT returns the oldest record and leaves it in place (R133). -/
def readOldest (s : State) : Reply :=
  match s.events.queue with
  | [] => ⟨s, .empty, [byteOf s.events.pendingLoss]⟩
  | e :: _ => ⟨s, .done, eventResult e s.events.queue.length⟩

/-- READ_EVENT (R133). -/
def execReadEvent (tag : Byte) (s : State) : Host.Outcome State Fault Refusal :=
  .next <| serve 0x70 tag s readOldest

/-- ACK_EVENT removes the oldest record if its sequence number matches, and the alert line is judged
again (R134, R137). -/
def acknowledge (sequence : Half) (s : State) : Reply :=
  match s.events.queue with
  | [] => ⟨s, .stale, ackResult []⟩
  | e :: rest =>
    if e.sequence = sequence then
      ⟨setEvents s { s.events with queue := rest, alert := alertJudged rest s.events.mask },
        .done, ackResult rest⟩
    else ⟨s, .stale, ackResult (e :: rest)⟩

/-- ACK_EVENT (R134). -/
def execAckEvent (tag : Byte) (sequence : Half) (s : State) : Host.Outcome State Fault Refusal :=
  .next <| serve 0x71 tag s (acknowledge sequence)

/-- SET_PARAM naming the alert mask, after which the alert line is judged again (R136, R137). -/
def setMask (mask : BitVec 13) (s : State) : Reply :=
  ⟨setEvents s { s.events with mask, alert := alertJudged s.events.queue mask }, .done,
    parameterResult 0x06 mask.toNat⟩

/-- SET_PARAM naming the alert mask (R136). -/
def execSetAlertMask (tag : Byte) (value : Quad) (s : State) : Host.Outcome State Fault Refusal :=
  .next <| serve 0x60 tag s fun s => checked (alertMask? value) s fun m => setMask m s

/-- READ_STATS returns one object's statistics and, with the clear flag set, sets those to 0 in the same
step (R140, R157). -/
def readStatistics (object : StatsObject) (clear : Bool) (s : State) : Reply :=
  match object with
  | .beats p =>
    ⟨if clear then
        countPort s p fun x =>
          { x with passBeats := 0, inBudgetBeats := 0, lentBeats := 0, backgroundBeats := 0 }
      else s, .done, beatsResult s.portStats[p]⟩
  | .exceptions p =>
    ⟨if clear then countPort s p fun x => { x with refusals := 0, spills := 0 } else s, .done,
      exceptionsResult s.portStats[p]⟩
  | .account a =>
    ⟨if clear then countAccount s a fun _ => ⟨0, 0⟩ else s, .done,
      accountStatsResult s.accountStats[a]⟩

/-- READ_STATS (R140). -/
def execReadStats (tag object clear : Byte) (s : State) : Host.Outcome State Fault Refusal :=
  .next <| serve 0x72 tag s fun s =>
    checked (statsObject? object) s fun o =>
    checked (flag? clear) s fun f =>
    readStatistics o f s

end Sys2Proof.Machine
end

