-- ==== Sys2Proof/Machine/MemoryPort.lean ====
section
/-! DEFINITION. The memory-side port's commands (chapter 6, R81): the take, the completion, the
timeout, DISCARD_ABANDONED, and SET_PARAM for the depth, the timeout and the fault action. -/

namespace Sys2Proof.Machine

/-- The note that an offer's grounds give (R91). -/
def noteOf : Grounds → Option Note
  | .pass | .owner => none
  | .lent => some .lent
  | .opened => some .opened
  | .background => some .background

/-- Takes on these grounds are charged (R27, R29, R91). -/
def chargedGrounds : Grounds → Bool
  | .owner | .lent | .opened => true
  | .pass | .background => false

/-- The beat statistic that the grounds name (R91, R138). -/
def countBeats (g : Grounds) (beats : Nat) (x : PortStats) : PortStats :=
  let n := BitVec.ofNat 32 beats
  match g with
  | .pass => { x with passBeats := x.passBeats + n }
  | .owner | .opened => { x with inBudgetBeats := x.inBudgetBeats + n }
  | .lent => { x with lentBeats := x.lentBeats + n }
  | .background => { x with backgroundBeats := x.backgroundBeats + n }

/-- The record at its take: ISSUED, with the note of the grounds and, in ENGAGED mode, the calendar's
position (R81). -/
def issueRecord (s : State) (o : Offer) (r : Record) : Record :=
  { r with
    state := .issued
    note := noteOf o.grounds
    issuedAt := if s.mode = .engaged then some (positionOf s.calendar) else none }

/-- The new issue-list entry (R97). -/
def entryOf (s : State) (o : Offer) (r : Record) : Entry :=
  ⟨o.port, some r.serial, r.txn.kind, r.txn.beats, 0, s.memory.timeout, .waiting⟩

/-- Charge the record's chain where the grounds are charged (R27, R29). -/
def chargeTake (s : State) (o : Offer) (r : Record) : State :=
  match r.account with
  | none => s
  | some a => if chargedGrounds o.grounds then charge s a r.txn.beats else s

/-- The memory controller takes the offered record: everything that issue means, in one step (R81, R97). -/
def issue (s : State) (o : Offer) (r : Record) : State :=
  let s' := changeIn (setOffer s none) o.port o.serial (issueRecord s o)
  let s' := setIssue s' (s.memory.issue ++ [entryOf s o r])
  let s' := setOutputs s' { s'.outputs with forwarded := some r.txn }
  let s' := countPort s' o.port (countBeats o.grounds r.txn.beats)
  let s' := if o.rotation then { s' with pointer := o.port + 1 } else s'
  makeOffer (chargeTake s' o r)

/-- A take finds the outstanding offer (R81). With none outstanding nothing can be taken (R82), and the row
changes nothing (assumption 18). -/
def takeOffer (s : State) : State :=
  match s.offer with
  | none => s
  | some o =>
    match findRecord s o.port o.serial with
    | none => s
    | some r => issue s o r

/-- TAKE (R81). -/
def execTake (s : State) : Host.Outcome State Fault Refusal := .next (onBus s takeOffer)

/-- The settled state of a record whose completion arrives: DONE, OK with the completion's data for a
READ, or DONE, FAULT (R101, R103). The data is delivered as it comes (assumption 13). -/
def completeRecord (c : Completion) (r : Record) : Record :=
  match c with
  | .good data =>
    { r with
      state := .done .ok
      readData := match r.txn.kind with
        | .read => some data
        | .write => none }
  | .fault => { r with state := .done .fault }

/-- The completion is a spill: the record carries an issue position other than the calendar's (R102). -/
def isSpill (s : State) (r : Record) : Bool :=
  match r.issuedAt with
  | none => false
  | some at_ => at_ != positionOf s.calendar

/-- The statistic of a GOOD completion, or the event of a FAULT completion (R102, R103). -/
def noteCompletion (c : Completion) (p : Port) (r : Option Record) (s : State) : State :=
  match c with
  | .good _ =>
    if r.any (isSpill s) then countPort s p fun x => { x with spills := x.spills + 1 } else s
  | .fault => report s (downstreamReport .downstreamFault p r)

/-- A completion matched to the oldest entry (R100 to R103, R105). -/
def completeEntry (c : Completion) (e : Entry) (rest : List Entry) (s : State) : State :=
  match e.state with
  | .abandoned =>
    makeOffer (report (setIssue s rest)
      { kind := .lateCompletion, port := some e.port, detail := some (completionCode c) })
  | .waiting =>
    let s' := settleRecord (setIssue s rest) e (completeRecord c)
    makeOffer (answerFront (noteCompletion c e.port (recordOf s e) s') e.port)

/-- A completion is matched to the oldest entry, or is stray (R100, R106). -/
def complete (c : Completion) (s : State) : State :=
  match s.memory.issue with
  | [] => report s { kind := .strayCompletion, detail := some (completionCode c) }
  | e :: rest => completeEntry c e rest s

/-- COMPLETION (R100). -/
def execCompletion (c : Completion) (s : State) : Host.Outcome State Fault Refusal :=
  .next (onBus s (complete c))

/-- ENTRY_TIMEOUT (R104): the oldest entry whose timeout is due. -/
def execEntryTimeout (s : State) : Host.Outcome State Fault Refusal :=
  .next (whenDue s (fun s => s.memory.issue.any timeoutDue) timeOut)

/-- DISCARD_ABANDONED removes every ABANDONED entry (R109). -/
def discard (s : State) : Reply :=
  let kept := s.memory.issue.filter waitsForCompletion
  ⟨makeOffer (setIssue s kept), .done,
    [byteOf (s.memory.issue.length - kept.length), byteOf kept.length]⟩

/-- DISCARD_ABANDONED (R109). -/
def execDiscardAbandoned (tag : Byte) (s : State) : Host.Outcome State Fault Refusal :=
  .next <| serve 0x61 tag s discard

/-- SET_PARAM naming the depth, in range: judged on the mode, then on the list and the offer (R111). -/
def judgeDepth (n : Nat) (s : State) : Reply :=
  if engagingOrEngaged s.mode then ⟨s, .mode, parameterResult 0x02 s.memory.depth⟩
  else if !s.memory.issue.isEmpty || s.offer.isSome then
    ⟨s, .busy, parameterResult 0x02 s.memory.depth⟩
  else ⟨{ s with memory := { s.memory with depth := n } }, .done, parameterResult 0x02 n⟩

/-- SET_PARAM naming the depth (R111). -/
def execSetDepth (tag : Byte) (value : Quad) (s : State) : Host.Outcome State Fault Refusal :=
  .next <| serve 0x60 tag s fun s => checked (ranged? 1 4 value) s fun n => judgeDepth n s

/-- SET_PARAM naming the timeout (R112). -/
def execSetTimeout (tag : Byte) (value : Quad) (s : State) : Host.Outcome State Fault Refusal :=
  .next <| serve 0x60 tag s fun s =>
    checked (ranged? 0 65535 value) s fun n =>
      ⟨{ s with memory := { s.memory with timeout := n } }, .done, parameterResult 0x03 n⟩

/-- SET_PARAM naming the fault action (R107). -/
def execSetFaultAction (tag : Byte) (value : Quad) (s : State) : Host.Outcome State Fault Refusal :=
  .next <| serve 0x60 tag s fun s =>
    checked (faultAction? value) s fun a =>
      ⟨{ s with memory := { s.memory with faultAction := a } }, .done,
        parameterResult 0x04 (faultActionCode a)⟩

end Sys2Proof.Machine
end

