-- ==== Sys2Proof/Machine/Modes.lean ====
section
/-! DEFINITION. The mode controller's commands (chapter 7). -/

namespace Sys2Proof.Machine

/-- DRAIN_COMPLETE (R118, R119). -/
def execDrainComplete (s : State) : Host.Outcome State Fault Refusal :=
  .next (whenDue s drainDue enterEngaged)

/-- An accepted ENGAGE: the active bank is set, the mode becomes ENGAGING, and the drain test is made at
once (R117, R118). -/
def startEngaging (b : BankIx) (s : State) : State :=
  let s := enterMode (setCalendar s { s.calendar with active := b }) .engaging
  if drained s then enterEngaged s else s

/-- ENGAGE: the mode, the bank's S and its signature are judged in that order (R117). -/
def requestEngage (b : BankIx) (signature : Half) (s : State) : Reply :=
  if s.mode ≠ .pass then refuse s .mode
  else if s.calendar.banks[b].slots = 0 then refuse s .badvalue
  else if s.calendar.banks[b].signature ≠ signature then refuse s .signature
  else
    let s := startEngaging b s
    ⟨s, .accepted, [modeCode s.mode, byteOf s.calendar.active.val]⟩

/-- ENGAGE (R117). -/
def execEngage (tag bank : Byte) (signature : Half) (s : State) : Host.Outcome State Fault Refusal :=
  .next <| serve 0x40 tag s fun s =>
    checked (bank? bank) s fun b => requestEngage b signature s

/-- The result that every response to DISENGAGE carries (R120). -/
def disengageResult (s : State) : List Byte := [modeCode s.mode, flagByte s.pendingDisengage]

/-- DISENGAGE, judged on the mode and the flag (R120). -/
def requestDisengage (s : State) : Reply :=
  match s.mode with
  | .engaged =>
    if s.pendingDisengage then ⟨s, .busy, disengageResult s⟩
    else
      let s := { s with pendingDisengage := true }
      ⟨s, .accepted, disengageResult s⟩
  | .engaging =>
    let s := makeOffer (enterMode s .pass)
    ⟨s, .done, disengageResult s⟩
  | .pass => ⟨s, .done, disengageResult s⟩
  | .halted => ⟨s, .mode, disengageResult s⟩

/-- DISENGAGE (R120). -/
def execDisengage (tag : Byte) (s : State) : Host.Outcome State Fault Refusal :=
  .next <| serve 0x41 tag s requestDisengage

/-- HALT (R122): its result carries the mode and the number of records settled HALTED. -/
def requestHalt (s : State) : Reply :=
  if s.mode = .halted then ⟨s, .done, [modeCode .halted, 0]⟩
  else ⟨enterHalted s, .done, [modeCode .halted, byteOf (waitingCount s)]⟩

/-- HALT (R122). -/
def execHalt (tag : Byte) (s : State) : Host.Outcome State Fault Refusal :=
  .next <| serve 0x42 tag s requestHalt

/-- RESTART (R126): from HALTED to PASS, with the run position cleared. -/
def requestRestart (s : State) : Reply :=
  if s.mode ≠ .halted then refuse s .mode
  else
    let c := { s.calendar with frame := 0, slot := 0, ticks := 0, pendingSwitch := false }
    ⟨makeOffer (enterMode (setCalendar s c) .pass), .done, [modeCode .pass]⟩

/-- RESTART (R126). -/
def execRestart (tag : Byte) (s : State) : Host.Outcome State Fault Refusal :=
  .next <| serve 0x43 tag s requestRestart

end Sys2Proof.Machine
end

