-- ==== Sys2Proof/Machine/Ports.lean ====
section
/-! DEFINITION. The requester ports' commands (chapter 3, R160): arrivals, QUIESCE, RESUME, and
SET_PARAM for the fence limit. -/

namespace Sys2Proof.Machine

/-- A master presents a transaction: the port holds it off or takes it (R45). A master whose arrival is
held off presents nothing else (R44), so a second arrival is disregarded (assumption 18). -/
def present (p : Port) (t : Txn) (s : State) : State :=
  if s.ports[p].arrival.isSome then s
  else if holdsOff s.mode s.ports[p] then setArrival s p (some t)
  else accept s p t

/-- ARRIVAL (R42 to R46). -/
def execArrival (port : Port) (txn : Txn) (s : State) : Host.Outcome State Fault Refusal :=
  .next (onBus s (present port txn))

/-- HELD_ARRIVAL_TAKE (R44). -/
def execHeldArrivalTake (port : Port) (s : State) : Host.Outcome State Fault Refusal :=
  .next (whenDue s (fun s => heldDue s port) fun s => takeHeld s port)

/-- ARRIVAL_WITHDRAW (R160). -/
def execArrivalWithdraw (port : Port) (s : State) : Host.Outcome State Fault Refusal :=
  .next (onBus s fun s => setArrival s port none)

/-- The flush of a QUIESCE: every WAITING record of the port becomes DONE, FLUSHED, and an offer of one of
them is withdrawn (R54, R82). -/
def flushPort (p : Port) (s : State) : State :=
  let s := setQueue s p (s.ports[p].queue.map (settleWaiting .flushed))
  if s.offer.any (·.port == p) then withdraw s else s

/-- QUIESCE on a port (R53, R54, R55). -/
def quiescePort (p : Port) (flush : Bool) (s : State) : Reply :=
  match s.ports[p].state with
  | .quiescing | .quiesced => refuse s .busy
  | .active | .fenced =>
    let s := setPortState s p .quiescing
    let s := if flush then flushPort p s else s
    let s := makeOffer (answerFront s p)
    ⟨s, .accepted, [portStateCode s.ports[p].state, byteOf s.ports[p].queue.length]⟩

/-- QUIESCE (R53). -/
def execQuiesce (tag port flush : Byte) (s : State) : Host.Outcome State Fault Refusal :=
  .next <| serve 0x50 tag s fun s =>
    checked (port? port) s fun p =>
    checked (flag? flush) s fun f =>
    quiescePort p f s

/-- RESUME on a port (R57). -/
def resumePort (p : Port) (s : State) : Reply :=
  match s.ports[p].state with
  | .active => ⟨s, .done, []⟩
  | .quiescing | .quiesced | .fenced =>
    ⟨setPort s p { s.ports[p] with state := .active, strikes := 0 }, .done, []⟩

/-- RESUME (R57). -/
def execResume (tag port : Byte) (s : State) : Host.Outcome State Fault Refusal :=
  .next <| serve 0x51 tag s fun s => checked (port? port) s fun p => resumePort p s

/-- SET_PARAM naming the fence limit (R60). -/
def execSetFenceLimit (tag : Byte) (value : Quad) (s : State) : Host.Outcome State Fault Refusal :=
  .next <| serve 0x60 tag s fun s =>
    checked (ranged? 0 15 value) s fun n =>
      ⟨{ s with fenceLimit := n }, .done, parameterResult 0x05 n⟩

end Sys2Proof.Machine
end

