-- ==== Sys2Proof/Machine/ServiceLink.lean ====
section
/-! DEFINITION. The reset input's two edges, and the commands and transfers of the service link itself
(chapter 9). -/

namespace Sys2Proof.Machine

/-- RESET_ASSERT: every block returns to its reset values, and a transfer in progress is abandoned
(R41, R63, R76, R95, R114, R128, R142, R154). LSEL# keeps its level, for it is the supervisor's, and the queue of
commands and the count of free choices are no part of the block. -/
def execResetAssert (s : State) : Host.Outcome State Fault Refusal :=
  .next (outsideTransfer
    { State.reset with pending := s.pending, inReset := true, choices := s.choices } s.link.lselLow)

/-- RESET_RELEASE: the regulator leaves reset (R159), with no transfer in progress whatever the level of LSEL#
(R154). -/
def execResetRelease (s : State) : Host.Outcome State Fault Refusal :=
  .next <|
    if s.inReset then outsideTransfer { begin s with inReset := false } s.link.lselLow else begin s

/-- TRANSFER_START: LSEL# falls. While RESET# is asserted it begins no transfer; otherwise the held
response is given up and its first bit is presented (R143, R147, R154, R159). The bits of the LCK periods are listed
with the row that ends the transfer (assumption 11). -/
def execTransferStart (s : State) : Host.Outcome State Fault Refusal :=
  .next <|
    if s.link.lselLow then begin s
    else if s.inReset then outsideTransfer (begin s) true
    else openTransfer (begin s)

/-- LSEL_RISE_WITHOUT_TRANSFER: the rise ends nothing and leaves the held response as it is (R154), and LDO is high
impedance (Table 10-10). -/
def execLselRiseWithoutTransfer (s : State) : Host.Outcome State Fault Refusal :=
  .next <|
    if s.link.shifting.isSome then begin s else outsideTransfer (begin s) false

/-- A response whose result bytes are all zero (R146). -/
def bareResponse (st : LinkStatus) (tag code : Byte) : Response := ⟨st, tag, code, padResult []⟩

/-- SHORT_TRANSFER (R143, R144): the complete bytes among the bits give the tag and the code echo, and LDO has
carried as many bits as LDI. -/
def execShortTransfer (bits : List Bool) (s : State) : Host.Outcome State Fault Refusal :=
  let bytes := gatherBytes bits
  .next (onLink s bits.length (bareResponse .short (byteAt bytes 1) (byteAt bytes 0)))

/-- BADCRC_PACKET (R148). -/
def execBadcrcPacket (code tag : Byte) (s : State) : Host.Outcome State Fault Refusal :=
  .next (onLink s Config.packetBits (bareResponse .badcrc tag code))

/-- The response to a packet that names no command: BADCMD for its code, BADVALUE for the identifier of a
SET_PARAM packet (R149, R153). -/
def unnamedResponse (tag : Byte) : Unnamed → Response
  | .code c => bareResponse .badcmd tag c
  | .parameter _ => bareResponse .badvalue tag 0x60

/-- UNKNOWN_COMMAND (R149, R153). -/
def execUnknownCommand (tag : Byte) (what : Unnamed) (s : State) : Host.Outcome State Fault Refusal :=
  .next (onLink s Config.packetBits (unnamedResponse tag what))

/-- NOP (R151). -/
def execNop (tag : Byte) (s : State) : Host.Outcome State Fault Refusal :=
  .next (onLink s Config.packetBits (bareResponse .done tag 0x00))

/-- READ_STATUS (R152). -/
def execReadStatus (tag : Byte) (s : State) : Host.Outcome State Fault Refusal :=
  .next <| serve 0x01 tag s fun s => ⟨s, .done, statusResult s⟩

end Sys2Proof.Machine
end

