-- ==== Sys2Proof/Machine/Windows.lean ====
section
/-! DEFINITION. The window table's commands (section 4.4). -/

namespace Sys2Proof.Machine

/-- Replace one window of one port. -/
def setWindow (s : State) (p : Port) (i : WindowIx) (w : Window) : State :=
  { s with windows := s.windows.set p (s.windows[p].set i w) }

/-- WRITE_WINDOW (R73). -/
def execWriteWindow (tag port window : Byte) (entry : RawWindow) (s : State) :
    Host.Outcome State Fault Refusal :=
  .next <| serve 0x20 tag s fun s =>
    checked (port? port) s fun p =>
    checked (windowIx? window) s fun i =>
    checked (window? entry) s fun w =>
    ⟨setWindow s p i w, .done, windowResult w⟩

/-- READ_WINDOW (R74). -/
def execReadWindow (tag port window : Byte) (s : State) : Host.Outcome State Fault Refusal :=
  .next <| serve 0x21 tag s fun s =>
    checked (port? port) s fun p =>
    checked (windowIx? window) s fun i =>
    ⟨s, .done, windowResult (s.windows[p])[i]⟩

end Sys2Proof.Machine
end

