-- ==== Sys2Proof/Machine/Dispatch.lean ====
section
/-! DEFINITION. The effect of each command on everything but the queue of commands: one arm for each row
of spec/opcode_table.json. -/

namespace Sys2Proof.Machine

def exec (i : Instr) (s : State) : Host.Outcome State Fault Refusal :=
  match i with
  | .resetAssert => Sys2Proof.Machine.execResetAssert s
  | .resetRelease => Sys2Proof.Machine.execResetRelease s
  | .tick => Sys2Proof.Machine.execTick s
  | .slotExpiry => Sys2Proof.Machine.execSlotExpiry s
  | .frameBoundary => Sys2Proof.Machine.execFrameBoundary s
  | .arrival port txn => Sys2Proof.Machine.execArrival port txn s
  | .heldArrivalTake port => Sys2Proof.Machine.execHeldArrivalTake port s
  | .arrivalWithdraw port => Sys2Proof.Machine.execArrivalWithdraw port s
  | .take => Sys2Proof.Machine.execTake s
  | .completion report => Sys2Proof.Machine.execCompletion report s
  | .entryTimeout => Sys2Proof.Machine.execEntryTimeout s
  | .drainComplete => Sys2Proof.Machine.execDrainComplete s
  | .transferStart => Sys2Proof.Machine.execTransferStart s
  | .shortTransfer bits => Sys2Proof.Machine.execShortTransfer bits s
  | .badcrcPacket code tag => Sys2Proof.Machine.execBadcrcPacket code tag s
  | .unknownCommand tag what => Sys2Proof.Machine.execUnknownCommand tag what s
  | .nop tag => Sys2Proof.Machine.execNop tag s
  | .readStatus tag => Sys2Proof.Machine.execReadStatus tag s
  | .writeBankHeader tag bank slots => Sys2Proof.Machine.execWriteBankHeader tag bank slots s
  | .writeSlot tag bank index entry => Sys2Proof.Machine.execWriteSlot tag bank index entry s
  | .readBank tag bank => Sys2Proof.Machine.execReadBank tag bank s
  | .readSlot tag bank index => Sys2Proof.Machine.execReadSlot tag bank index s
  | .switch tag signature => Sys2Proof.Machine.execSwitch tag signature s
  | .cancelSwitch tag => Sys2Proof.Machine.execCancelSwitch tag s
  | .writeWindow tag port window entry => Sys2Proof.Machine.execWriteWindow tag port window entry s
  | .readWindow tag port window => Sys2Proof.Machine.execReadWindow tag port window s
  | .writeAccount tag account preload period parent exhaust => Sys2Proof.Machine.execWriteAccount tag account preload period parent exhaust s
  | .readAccount tag account => Sys2Proof.Machine.execReadAccount tag account s
  | .stageOverride tag account flag value => Sys2Proof.Machine.execStageOverride tag account flag value s
  | .clearOverride tag account => Sys2Proof.Machine.execClearOverride tag account s
  | .refillNow tag account => Sys2Proof.Machine.execRefillNow tag account s
  | .engage tag bank signature => Sys2Proof.Machine.execEngage tag bank signature s
  | .disengage tag => Sys2Proof.Machine.execDisengage tag s
  | .halt tag => Sys2Proof.Machine.execHalt tag s
  | .restart tag => Sys2Proof.Machine.execRestart tag s
  | .quiesce tag port flush => Sys2Proof.Machine.execQuiesce tag port flush s
  | .resume tag port => Sys2Proof.Machine.execResume tag port s
  | .setTickDivider tag value => Sys2Proof.Machine.execSetTickDivider tag value s
  | .setDepth tag value => Sys2Proof.Machine.execSetDepth tag value s
  | .setTimeout tag value => Sys2Proof.Machine.execSetTimeout tag value s
  | .setFaultAction tag value => Sys2Proof.Machine.execSetFaultAction tag value s
  | .setFenceLimit tag value => Sys2Proof.Machine.execSetFenceLimit tag value s
  | .setAlertMask tag value => Sys2Proof.Machine.execSetAlertMask tag value s
  | .discardAbandoned tag => Sys2Proof.Machine.execDiscardAbandoned tag s
  | .readEvent tag => Sys2Proof.Machine.execReadEvent tag s
  | .ackEvent tag sequence => Sys2Proof.Machine.execAckEvent tag sequence s
  | .readStats tag object clear => Sys2Proof.Machine.execReadStats tag object clear s
  | .lselRiseWithoutTransfer => Sys2Proof.Machine.execLselRiseWithoutTransfer s

end Sys2Proof.Machine
end

