-- ==== Sys2Proof/Safety.lean ====
section
/-! DEFINITION. What the manual promises of every state: the laws that its rules state for the whole
machine, as predicates that the claims use, and the vocabulary in which a command's outcome is stated. -/

namespace Sys2Proof.Machine

/-! ### Vocabulary of the claims -/

/-- A service command meets no difficulty on the link and no occurrence that is due before it. -/
def Ready (s : State) : Prop := linkOpen s = true ∧ settled s = true

/-- A command of the memory bus meets a regulator out of reset with nothing due before it. -/
def Awake (s : State) : Prop := s.inReset = false ∧ settled s = true

/-- The outputs of a command that drives nothing. -/
def quietOutputs : Outputs := ⟨Vector.replicate 4 [], none, none, []⟩

/-- The outputs of a row that ends a transfer of `n` LCK periods: LDO has carried the response given up. Where no
transfer was in progress, the row itself gave it up, and presented its first bit at the fall of LSEL#
(R143, R147, R159). -/
def linkOutputs (l : Link) (n : Nat) : Outputs :=
  if l.shifting.isSome then ⟨Vector.replicate 4 [], none, none, shiftedOut l.shifting n⟩
  else ⟨Vector.replicate 4 [], none, l.held.map (ldoBit · 0), shiftedOut l.held n⟩

/-- The outputs of a row that ends a complete transfer: the bits of the 24 bytes (R143). -/
def transferOutputs (l : Link) : Outputs := linkOutputs l 192

/-- The service link after a transfer, with the response that it then holds: LSEL# is high, and so LDO is high
impedance (R143, R147, Table 10-10). -/
def closedLink (r : Response) : Link := ⟨false, none, some r, .highImpedance⟩

/-- The state `t` after a transfer that met the link `l` and whose command is answered `r` (R147). A command met with
no transfer in progress stands for the whole transfer (assumption 3). -/
def afterTransfer (l : Link) (t : State) (r : Response) : State :=
  { t with link := closedLink r, outputs := transferOutputs l }

/-- A response with its result bytes padded with zeros to 19 (R146). -/
def response (st : LinkStatus) (tag code : Byte) (result : List Byte) : Response :=
  ⟨st, tag, code, result ++ List.replicate (19 - result.length) 0⟩

/-- The front record of no queue is answerable: every answer that can be given has been given (R50). -/
def FrontsAnswered (s : State) : Prop :=
  ∀ p : Port, ∀ r, s.ports[p].queue.head? = some r → answerable r = false

/-- A new record, as the port fills it when it takes an arrival (R47). -/
def newRecord (s : State) (t : Txn) (state : RecordState) (account : Option AccountIx)
    (window : Option WindowIx) : Record :=
  ⟨s.serial, t, account, window, state, none, none, none⟩

/-- The selector's choice in the state `t`: an offer that stands is kept, and otherwise the order of choice
names one if the issue list has room (R79). -/
def offering (t : State) : State :=
  { t with
    offer := if t.offer = none ∧ t.memory.issue.length < t.memory.depth then choose t else t.offer }

/-- The offer after an account report: it is kept while the offered record's class is the one that its
grounds require, and otherwise the selector chooses again (R92). -/
def rejudged (t : State) : State := offering { t with offer := t.offer.filter (groundsHold t) }

/-- The state of port `p` with the queue `q`, once it has answered the answerable run at the front (R50),
and with PORT_QUIESCED produced if that empties a QUIESCING port (R55). -/
def answered (s : State) (p : Port) (q : List Record) : State :=
  let kept := q.dropWhile answerable
  let ends := s.ports[p].state = .quiescing ∧ kept = []
  { s with
    ports := s.ports.set p
      { s.ports[p] with queue := kept, state := if ends then .quiesced else s.ports[p].state }
    events :=
      if ends then storeIn s.events (positionOf s.calendar) { kind := .portQuiesced, port := some p }
      else s.events
    outputs := { s.outputs with
      answers := s.outputs.answers.set p
        (s.outputs.answers[p] ++ (q.takeWhile answerable).map answerOf) } }

/-- The coding of a slot entry in four bytes (Table 10-2). -/
def entryWord (e : SlotEntry) : Quad :=
  BitVec.ofNat 32 ((ownerCode e.owner).toNat * 0x10000000 + (idlePolicyCode e.idle).toNat * 0x1000000
    + e.length * 0x100 + e.cutoff)

/-- The coding of a window entry (Table 10-5). -/
def rawWindow (w : Window) : RawWindow :=
  ⟨flagByte w.valid, accessCode w.access, byteOf w.account.val, BitVec.ofNat 24 w.base,
    BitVec.ofNat 24 w.limit⟩

/-- The drain is complete: every port queue is empty and every entry is ABANDONED (R118). -/
def DrainComplete (s : State) : Prop :=
  (∀ p : Port, s.ports[p].queue = []) ∧ ∀ e ∈ s.memory.issue, e.state = .abandoned

/-- The start of an engaged run: slot 0 of the active bank in frame 0, every account refilled with its
countdown reloaded, every strike count 0, and MODE_CHANGE stored with frame 0 and slot 0 (R119). -/
def startedRun (t : State) : State :=
  { t with
    mode := .engaged
    calendar := { t.calendar with
      frame := 0, slot := 0, ticks := t.calendar.banks[t.calendar.active].entries[0].length }
    accounts := t.accounts.map fun a => { refill a with countdown := a.period }
    ports := t.ports.map fun u => { u with strikes := 0 }
    events := storeIn t.events ⟨0, 0⟩ { kind := .modeChange, detail := some 0x02 } }

/-- The issue list after a tick: every entry that waits for its completion has counted it, up to 65535 (R98). -/
def tickedList (l : List Entry) : List Entry :=
  l.map fun e => if e.state = .waiting then { e with ticks := min (e.ticks + 1) 65535 } else e

/-- What every frame boundary's tick does before the calendar continues: the entries count it, the offer is
withdrawn, the frame number advances, every account counts down, and every strike count becomes 0
(R15, R31, R59, R82, R98). -/
def countedBoundary (s : State) : State :=
  { s with
    memory := { s.memory with issue := tickedList s.memory.issue }
    offer := none
    calendar := { s.calendar with frame := s.calendar.frame + 1 }
    accounts := s.accounts.map countDown
    ports := s.ports.map fun u => { u with strikes := 0 }
    outputs := quietOutputs }

/-- A record settled by a halt, if it is WAITING (R123). -/
def haltedRecord (r : Record) : Record := if r.state = .waiting then { r with state := .done .halted } else r

/-- The ports that a halt brings to QUIESCED: those QUIESCING that hold no ISSUED record (R55, R123). -/
def portsEndedByHalt (s : State) : List Port :=
  [0, 1, 2, 3].filter fun p : Port =>
    s.ports[p].state == .quiescing && s.ports[p].queue.all (·.state != .issued)

/-- `t` is `s` after entering HALTED (R122, R123), apart from the link, LDO and the count of choices. The
events of ports that end their quiescing come in some order, and MODE_CHANGE follows them. -/
structure HaltedFrom (s t : State) : Prop where
  mode : t.mode = .halted
  flags : t.pendingDisengage = false
  calendar : t.calendar = { s.calendar with pendingSwitch := false }
  offer : t.offer = none
  ports : ∀ p : Port, t.ports[p] = { s.ports[p] with
    queue := (s.ports[p].queue.map haltedRecord).dropWhile answerable
    state := if p ∈ portsEndedByHalt s then .quiesced else s.ports[p].state }
  answers : ∀ p : Port, t.outputs.answers[p] =
    s.outputs.answers[p] ++ ((s.ports[p].queue.map haltedRecord).takeWhile answerable).map answerOf
  events : ∃ l : List Port, l.Perm (portsEndedByHalt s) ∧ t.events =
    storeIn
      (l.foldl (fun u p => storeIn u (positionOf s.calendar) { kind := .portQuiesced, port := some p })
        s.events)
      (positionOf s.calendar) { kind := .modeChange, detail := some 0x03 }
  kept : t.accounts = s.accounts ∧ t.accountStats = s.accountStats ∧ t.windows = s.windows
    ∧ t.portStats = s.portStats ∧ t.fenceLimit = s.fenceLimit ∧ t.pointer = s.pointer
    ∧ t.memory = s.memory ∧ t.pending = s.pending ∧ t.inReset = s.inReset ∧ t.serial = s.serial
    ∧ t.outputs.forwarded = s.outputs.forwarded

/-- Port `p` is the first in `order` whose candidate is admitted, and `r` is that candidate (R83). -/
def FoundFirst (s : State) (order : List Port) (admits : Record → Prop) (p : Port) (r : Record) : Prop :=
  ∃ before after, order = before ++ p :: after ∧ candidate s.ports[p] = some r ∧ admits r
    ∧ ∀ q ∈ before, ∀ x, candidate s.ports[q] = some x → ¬ admits x

/-- No port in `order` has a candidate that is admitted. -/
def FoundNone (s : State) (order : List Port) (admits : Record → Prop) : Prop :=
  ∀ p ∈ order, ∀ r, candidate s.ports[p] = some r → ¬ admits r

/-- A transaction is well formed: a multiple of 8 that stays within one block (R43). -/
def StaysInBlock (t : Txn) : Prop :=
  t.address.toNat % 8 = 0 ∧ t.address.toNat % 1024 + 8 * t.beats ≤ 1024

/-! ### Which rows act on the state that settling gives -/

/-- The kinds of row: an occurrence on the bus or the time base; a command that a block judges; a transfer that
ends in the link; an occurrence that another makes due; an edge of RESET# or of LSEL# alone. -/
inductive RowKind where
  | bus
  | service
  | link
  | consequence
  | edge
  deriving DecidableEq, Repr

/-- The kind of each row. -/
def rowKind : Instr → RowKind
  | .tick | .slotExpiry | .frameBoundary | .arrival _ _ | .arrivalWithdraw _ | .take => .bus
  | .completion _ => .bus
  | .heldArrivalTake _ | .entryTimeout | .drainComplete => .consequence
  | .resetAssert | .resetRelease | .transferStart | .lselRiseWithoutTransfer => .edge
  | .shortTransfer _ | .badcrcPacket _ _ | .unknownCommand _ _ | .nop _ => .link
  | .readStatus _ | .writeBankHeader _ _ _ | .writeSlot _ _ _ _ | .readBank _ _ => .service
  | .readSlot _ _ _ | .switch _ _ | .cancelSwitch _ | .writeWindow _ _ _ _ => .service
  | .readWindow _ _ _ | .writeAccount _ _ _ _ _ _ | .readAccount _ _ => .service
  | .stageOverride _ _ _ _ | .clearOverride _ _ | .refillNow _ _ | .engage _ _ _ => .service
  | .disengage _ | .halt _ | .restart _ | .quiesce _ _ _ | .resume _ _ => .service
  | .setTickDivider _ _ | .setDepth _ _ | .setTimeout _ _ | .setFaultAction _ _ => .service
  | .setFenceLimit _ _ | .setAlertMask _ _ | .discardAbandoned _ | .readEvent _ => .service
  | .ackEvent _ _ | .readStats _ _ _ => .service

/-- An entry has reached its timeout limit, which is not 0 (R104). -/
def AtLimit (e : Entry) : Prop := e.state = .waiting ∧ e.limit ≠ 0 ∧ e.limit ≤ e.ticks

/-- Port `p` holds an arrival off that the acceptance rule holds off no longer (R44, R45 steps 1 and 2). -/
def Releasable (s : State) (p : Port) : Prop :=
  s.ports[p].arrival ≠ none ∧ s.ports[p].state ≠ .quiescing ∧ s.ports[p].state ≠ .quiesced
    ∧ s.ports[p].queue.length < 8 ∧ s.mode ≠ .engaging

/-- Nothing is due: no entry is at its limit, no drain is complete, and no arrival is held off in vain. -/
structure NothingDue (s : State) : Prop where
  timeouts : ∀ e ∈ s.memory.issue, ¬ AtLimit e
  drain : ¬ (s.mode = .engaging ∧ DrainComplete s)
  held : ∀ p : Port, ¬ Releasable s p

/-- The state `t` with the answers that `u` has sent put before its own. -/
def withAnswersBefore (u t : State) : State :=
  { t with outputs := { t.outputs with
    answers := Vector.ofFn fun p => u.outputs.answers[p] ++ t.outputs.answers[p] } }

/-! ### The standing of a record (R23, R24, R25, R87) -/

/-- Account `x` lies on the chain of account `a`: it is `a`, or the parent of an account on the chain (R23). -/
inductive OnChain (accounts : Vector Account 8) (a : AccountIx) : AccountIx → Prop
  | own : OnChain accounts a a
  | up {x y : AccountIx} : OnChain accounts a x → accounts[x].parent = some y → OnChain accounts a y

/-- Every account on the chain of the record's account has a count of 1 or more (R24). -/
def InBudget (accounts : Vector Account 8) (r : Record) : Prop :=
  ∃ a, r.account = some a ∧ ∀ x, OnChain accounts a x → 1 ≤ accounts[x].count

/-- The record has an account and is not in-budget, and its own account's exhaust mode is BACKGROUND (R25). -/
def InBackground (accounts : Vector Account 8) (r : Record) : Prop :=
  ¬ InBudget accounts r ∧ ∃ a, r.account = some a ∧ accounts[a].exhaust = .background

/-! ### What becomes of a record (R48, R50, R51) -/

/-- The record `r` is as a port fills it when it takes the transaction `t`: it waits, or it is refused (R46, R47). -/
def AsTaken (t : Txn) (r : Record) : Prop :=
  r.txn = t ∧ r.note = none ∧ r.readData = none
    ∧ (r.state = .waiting ∨ ∃ st ∈ [Status.malformed, .window, .access, .fenced, .halted], r.state = .refused st)

/-- The record `r` is settled as `r'` in the course of the command `c`, and is then answered: one that was answerable
is as it was; one that waited is halted, or flushed by QUIESCE; one that was issued times out, or is completed by the
command, and a READ that is completed GOOD has the completion's data (R48, R51, R54, R101, R102, R104, R123). -/
def SettledIn (c : Instr) (r r' : Record) : Prop :=
  r'.serial = r.serial ∧ r'.txn = r.txn ∧ r'.note = r.note
    ∧ (answerable r = true → r' = r)
    ∧ (r.state = .waiting → r'.readData = r.readData
        ∧ (r'.state = .done .halted
          ∨ (r'.state = .done .flushed ∧ ∃ tag port flush, c = .quiesce tag port flush)))
    ∧ (r.state = .issued →
        (r'.readData = r.readData
          ∧ (r'.state = .done .timeout ∨ (r'.state = .done .fault ∧ c = .completion .fault)))
        ∨ ∃ data, c = .completion (.good data) ∧ r'.state = .done .ok
            ∧ r'.readData = if r.txn.kind = .read then some data else none)

/-! ### Capacities (R45, R59, R60, R96, R111) -/

/-- No queue or list outgrows its capacity, and an offer stands only while the issue list has room. -/
structure WithinCapacity (s : State) : Prop where
  queues : ∀ p : Port, s.ports[p].queue.length ≤ 8
  strikes : ∀ p : Port, s.ports[p].strikes ≤ 15
  fence : s.fenceLimit ≤ 15
  depth : 1 ≤ s.memory.depth ∧ s.memory.depth ≤ 4
  issue : s.memory.issue.length ≤ s.memory.depth
  room : s.offer.isSome = true → s.memory.issue.length < s.memory.depth

/-! ### The event unit (R129, R130, R137) -/

/-- Sequence numbers run on without gaps, and the next number follows the newest (R130). -/
def consecutive : List Event → Half → Prop
  | [], _ => True
  | [e], next => next = e.sequence + 1
  | e :: f :: es, next => f.sequence = e.sequence + 1 ∧ consecutive (f :: es) next

/-- The event queue holds at most 32 records in order of sequence number, and ALERT# is as R137 judges. -/
structure EventsSound (s : State) : Prop where
  held : s.events.queue.length ≤ 32
  ordered : consecutive s.events.queue s.events.nextSequence
  loss : s.events.pendingLoss ≤ 255
  alert : s.events.alert = true ↔ ∃ e ∈ s.events.queue, inMask s.events.mask e.report.kind = true

/-! ### The calendar and the mode (R3, R4, R10, R115) -/

/-- A slot entry within Table 1-1. -/
def SlotEntry.Valid (e : SlotEntry) : Prop := 1 ≤ e.length ∧ e.length ≤ 4095 ∧ e.cutoff ≤ 255

/-- A bank within R3, with the signature of its content (R4). -/
structure Bank.Valid (b : Bank) : Prop where
  slots : b.slots = 0 ∨ (2 ≤ b.slots ∧ b.slots ≤ 32)
  entries : ∀ i : SlotIx, b.entries[i].Valid
  signature : b.signature = signatureOf b.slots b.entries

/-- The banks are valid; a bank that runs or is about to run has a frame; the running position lies
within the active bank while ENGAGED, with at least one tick remaining; and the pending flags are set only while ENGAGED. -/
structure CalendarSound (s : State) : Prop where
  divider : 1 ≤ s.calendar.divider ∧ s.calendar.divider ≤ 65536
  banks : ∀ b : BankIx, s.calendar.banks[b].Valid
  active : engagingOrEngaged s.mode = true → (activeBank s.calendar).slots ≠ 0
  staging : s.calendar.pendingSwitch = true → (stagingBank s.calendar).slots ≠ 0
  position : s.mode = .engaged → s.calendar.slot.val < (activeBank s.calendar).slots
  ticks : s.mode = .engaged → 1 ≤ s.calendar.ticks ∧ s.calendar.ticks ≤ (currentSlot s.calendar).length
  switching : s.calendar.pendingSwitch = true → s.mode = .engaged
  disengaging : s.pendingDisengage = true → s.mode = .engaged

/-! ### Windows (R64) -/

/-- No window's base exceeds its limit, and no block number exceeds the last (R64). -/
def WindowsSound (s : State) : Prop :=
  ∀ p : Port, ∀ i : WindowIx,
    (s.windows[p])[i].base ≤ (s.windows[p])[i].limit ∧ (s.windows[p])[i].limit ≤ 4194303

/-! ### The service link (R147, R154, R159, Table 10-10) -/

/-- A response is held exactly when no transfer is in progress; a transfer is in progress only with LSEL# low and
RESET# released; and LDO is high impedance while LSEL# is high, and shows the first bit of the response that is
shifted out while a transfer is in progress. -/
structure LinkSound (s : State) : Prop where
  held : s.link.held.isSome = true ↔ s.link.shifting = none
  transfer : s.link.shifting.isSome = true → s.link.lselLow = true ∧ s.inReset = false
  undriven : s.link.lselLow = false → s.link.ldo = .highImpedance
  first : ∀ r, s.link.shifting = some r →
    s.link.ldo = .driven (((responseBytes r).getD 0 0).getMsbD 0)

/-! ### Promptness (R50, R55, R79) -/

/-- What the rules say happens at once has happened: no answer waits to be given, no QUIESCING port has an
empty queue, and no candidate waits that the selector could offer. -/
structure Prompt (s : State) : Prop where
  depth : 1 ≤ s.memory.depth
  answers : FrontsAnswered s
  quiescing : ∀ p : Port, s.ports[p].state = .quiescing → s.ports[p].queue ≠ []
  offer : s.offer = none → s.memory.issue.length < s.memory.depth → choose s = none

/-! ### Every engaged record carries an account (R70) -/

/-- While ENGAGED, every WAITING or ISSUED record carries an account (R70). -/
def EngagedRecordsClassified (s : State) : Prop :=
  s.mode = .engaged → ∀ p : Port, ∀ r ∈ s.ports[p].queue,
    (r.state = .waiting ∨ r.state = .issued) → r.account.isSome = true

/-- While ENGAGED an offer stands only in a slot that is neither closing nor QUIET (R86). -/
def OfferInOpenSlot (s : State) : Prop :=
  s.mode = .engaged → s.offer.isSome = true →
    (currentSlot s.calendar).cutoff < s.calendar.ticks ∧ (currentSlot s.calendar).owner ≠ .quiet

/-! ### Accounts, records, entries and the offer (R22, R36, R92, R96) -/

/-- Following parent links from any account never leads back to that account (R36). -/
def Acyclic (accounts : Vector Account 8) : Prop :=
  ∀ a p : AccountIx, accounts[a].parent = some p → a ∉ chain accounts p

/-- An account within Table 2-1: in particular its count lies between −15 and 65535 (R30). -/
structure Account.InRange (a : Account) : Prop where
  count : -15 ≤ a.count ∧ a.count ≤ 65535
  preload : a.preload ≤ 65535
  period : 1 ≤ a.period ∧ a.period ≤ 255
  countdown : 1 ≤ a.countdown ∧ a.countdown ≤ 255
  override : ∀ v, a.override = some v → v ≤ 65535

/-- Records of one port are named in the order taken. -/
def RecordsNamed (s : State) : Prop :=
  ∀ p : Port, (s.ports[p].queue.map Record.serial).Pairwise (· < ·)
    ∧ ∀ r ∈ s.ports[p].queue, r.serial < s.serial

/-- An entry that waits for its completion serves an ISSUED record of its port, each a different one, and
an ABANDONED entry serves none (R96, R118). -/
structure EntriesServe (s : State) : Prop where
  waiting : ∀ e ∈ s.memory.issue, e.state = .waiting →
    ∃ r ∈ s.ports[e.port].queue, e.record = some r.serial ∧ r.state = .issued
  abandoned : ∀ e ∈ s.memory.issue, e.state = .abandoned → e.record = none
  distinct : s.memory.issue.Pairwise fun e f =>
    e.record.isSome = true → e.port = f.port → e.record ≠ f.record

/-- The class that the grounds of an offer require (R92). -/
def requiredStanding : Grounds → Option Standing
  | .pass => none
  | .owner | .lent | .opened => some .inBudget
  | .background => some .background

/-- The offer is its port's candidate, on grounds that the mode allows and that are true now (R82, R92). -/
def OfferStands (s : State) : Prop :=
  ∀ o, s.offer = some o → ∃ r, candidate s.ports[o.port] = some r ∧ r.serial = o.serial
    ∧ s.mode ≠ .halted
    ∧ (s.mode = .engaged → requiredStanding o.grounds = some (standing s.accounts r))
    ∧ (s.mode = .pass ∨ s.mode = .engaging → o.grounds = .pass)

/-- The accounts, the records, the issue list and the offer fit together. -/
structure Coherent (s : State) : Prop where
  acyclic : Acyclic s.accounts
  accounts : ∀ a : AccountIx, s.accounts[a].InRange
  records : RecordsNamed s
  entries : EntriesServe s
  offer : OfferStands s

end Sys2Proof.Machine
end

