-- ==== Sys2Proof/Certificates/Slice0/Obligations.lean ====
section
/-! DEFINITION. The statements for the provers: what each command does, what happens of itself, and the
laws that every step keeps. -/

section Statements

open Sys2Proof Sys2Proof.Machine

/-! ### Reset, the queue of commands, and the link -/

/-- RESET# places every block in its reset state, whatever it was doing: section 1.8, Table 2-2, R63, R76,
R95, R114, R128, R142 and R154. A transfer in progress is abandoned, and LDO is high impedance if LSEL# is high
(Table 10-10); that LSEL# keeps its level is the model's choice (assumption 8). The record names restart at 0, which is
the model's own (assumption 5). -/
def Obligations.ResetAssertPlacesEveryBlock : Prop :=
  ∀ s : State, ∃ t, exec .resetAssert s = .next t ∧ t.inReset = true
    ∧ t.mode = .pass ∧ t.pendingDisengage = false
    ∧ t.calendar.divider = 100 ∧ t.calendar.active = 0 ∧ t.calendar.pendingSwitch = false
    ∧ t.calendar.frame = 0 ∧ t.calendar.slot = 0 ∧ t.calendar.ticks = 0
    ∧ (∀ b : BankIx, t.calendar.banks[b].slots = 0 ∧ t.calendar.banks[b].signature = 0xE1F0
        ∧ ∀ i : SlotIx, t.calendar.banks[b].entries[i] = ⟨.quiet, 1, 0, .hold⟩)
    ∧ (∀ a : AccountIx, t.accounts[a] = ⟨0, 0, 1, 1, none, .wait, none⟩ ∧ t.accountStats[a] = ⟨0, 0⟩)
    ∧ (∀ p : Port, t.ports[p] = ⟨[], .active, 0, none⟩ ∧ t.portStats[p] = ⟨0, 0, 0, 0, 0, 0⟩
        ∧ ∀ i : WindowIx, (t.windows[p])[i] = ⟨false, 0, 0, .both, 0⟩)
    ∧ t.fenceLimit = 0 ∧ t.pointer = 0 ∧ t.offer = none
    ∧ t.memory = ⟨[], 1, 0, .carryOn⟩
    ∧ t.events.queue = [] ∧ t.events.nextSequence = 0 ∧ t.events.pendingLoss = 0
    ∧ t.events.alert = false
    ∧ (∀ k : EventKind, inMask t.events.mask k = true ↔ k ≠ .modeChange ∧ k ≠ .switchDone)
    ∧ t.link.lselLow = s.link.lselLow ∧ t.link.shifting = none
    ∧ t.link.held = some ⟨.none, 0, 0, List.replicate 19 0⟩
    ∧ (s.link.lselLow = false → t.link.ldo = .highImpedance)
    ∧ t.serial = 0 ∧ t.outputs = quietOutputs ∧ t.pending = s.pending

/-- Every law of the machine holds of the state after reset. -/
def Obligations.LawsHoldAfterReset : Prop :=
  WithinCapacity State.reset ∧ WindowsSound State.reset ∧ EventsSound State.reset
    ∧ CalendarSound State.reset ∧ LinkSound State.reset ∧ Prompt State.reset ∧ Coherent State.reset
    ∧ EngagedRecordsClassified State.reset ∧ OfferInOpenSlot State.reset

/-- While RESET# is asserted no command of the bus or the link changes anything (R63, R154; that the bus is
idle is the model's choice, assumption 8), and the release leaves the reset state (R159). A fall of LSEL# begins no
transfer, and a rise ends none (R154). LDO is high impedance while LSEL# is high (Table 10-10); what it shows while
LSEL# is low outside a transfer is left free (assumption 20). -/
def Obligations.ResetHoldsEverythingUntilItsRelease : Prop :=
  ∀ s : State,
    let high : Link := { s.link with lselLow := false, ldo := .highImpedance }
    (s.inReset = false → exec .resetRelease s = .next { s with outputs := quietOutputs })
    ∧ (s.inReset = true →
        (s.link.lselLow = false →
          exec .resetRelease s = .next { s with inReset := false, link := high, outputs := quietOutputs }
          ∧ ∃ shown, exec .transferStart s = .next { s with
              link := { s.link with lselLow := true, ldo := shown }
              choices := s.choices + 1
              outputs := quietOutputs })
        ∧ (s.link.lselLow = true →
          (∃ shown, exec .resetRelease s = .next { s with
              inReset := false
              link := { s.link with ldo := shown }
              choices := s.choices + 1
              outputs := quietOutputs })
          ∧ exec .transferStart s = .next { s with outputs := quietOutputs })
        ∧ (s.link.shifting = none →
          exec .lselRiseWithoutTransfer s = .next { s with link := high, outputs := quietOutputs })
        ∧ ∀ c : Instr, c ≠ .resetAssert → c ≠ .resetRelease → c ≠ .transferStart →
          c ≠ .lselRiseWithoutTransfer → exec c s = .next { s with outputs := quietOutputs })

/-- A step takes the command at the front of the queue and runs it with the queue's rest. With no command
waiting the block idles, which is the model's choice (assumption 1). -/
def Obligations.StepRunsTheCommandAtTheFront : Prop :=
  ∀ s : State,
    (∀ c rest, s.pending = c :: rest → step s = exec c { s with pending := rest })
    ∧ (s.pending = [] → step s = .next s)

/-- Every command answers a next state, leaves the queue of commands alone, and only the two edges of RESET#
change whether the block is in reset. -/
def Obligations.CommandsCompleteAndLeaveTheQueue : Prop :=
  ∀ (c : Instr) (s : State), ∃ t, exec c s = .next t ∧ t.pending = s.pending
    ∧ (c ≠ .resetAssert → c ≠ .resetRelease → t.inReset = s.inReset)

/-- LSEL# falls: the held response is given up, to be shifted out, and LDO is driven from that fall, with the first bit
presented at it (R143, R147, R159). A transfer of `n` LCK periods carries the response's 24 bytes on LDO, byte 0 first
and most significant bit first, and LDO is low past them (R143). The bits of the LCK periods are listed with the row
that ends the transfer, which is the model's choice (assumption 11). A rise outside a transfer ends nothing and leaves
the held response as it is (R154), and LDO is then high impedance (Table 10-10). -/
def Obligations.TransferStartGivesUpTheHeldResponse : Prop :=
  (∀ s : State, s.link.shifting = none →
    (∀ r, s.inReset = false → s.link.lselLow = false → s.link.held = some r →
      let bit := ((responseBytes r).getD 0 0).getMsbD 0
      exec .transferStart s = .next { s with
        link := ⟨true, some r, none, .driven bit⟩
        outputs := { quietOutputs with presented := some bit } })
    ∧ exec .lselRiseWithoutTransfer s = .next { s with
        link := { s.link with lselLow := false, ldo := .highImpedance }, outputs := quietOutputs })
  ∧ ∀ (r : Response) (n : Nat), r.result.length = 19 →
    (ldoBits r n).length = n
    ∧ ∀ i < n, (ldoBits r n)[i]? =
        some (decide (i < 192) && ((responseBytes r).getD (i / 8) 0).getMsbD (i % 8))

/-- A transfer cut short of 24 bytes, a packet with a wrong CRC, a packet that names no command, and NOP change no
block; only the held response is formed (R143, R144, R148, R149, R151, R153). The packet's bytes are the complete
bytes that LDI carried, most significant bit first, and an unfinished byte is disregarded (R143). That a SET_PARAM
packet with an unknown identifier is carried by the row UNKNOWN_COMMAND is the model's reading (assumption 10). -/
def Obligations.TransfersThatReachNoBlock : Prop :=
  (∀ bits : List Bool, (gatherBytes bits).length = bits.length / 8
    ∧ ∀ i < bits.length / 8, ∀ j < 8,
        ((gatherBytes bits).getD i 0).getMsbD j = bits.getD (8 * i + j) false)
  ∧ (∀ bits : List Bool, bits.length < 192 → decodeTransfer bits = .shortTransfer bits)
  ∧ (∀ bits : List Bool, 192 ≤ bits.length →
      crc ((gatherBytes bits).take 22) ≠ halfAt (gatherBytes bits) 22 →
      decodeTransfer bits
        = .badcrcPacket ((gatherBytes bits).getD 0 0) ((gatherBytes bits).getD 1 0))
  ∧ ∀ s : State, linkOpen s = true →
    (∀ bits : List Bool, bits.length < 192 →
      exec (.shortTransfer bits) s = .next { s with
        link := closedLink
          (response .short ((gatherBytes bits).getD 1 0) ((gatherBytes bits).getD 0 0) [])
        outputs := linkOutputs s.link bits.length })
    ∧ (∀ code tag : Byte, exec (.badcrcPacket code tag) s =
        .next (afterTransfer s.link s (response .badcrc tag code [])))
    ∧ (∀ tag code : Byte, exec (.unknownCommand tag (.code code)) s =
        .next (afterTransfer s.link s (response .badcmd tag code [])))
    ∧ (∀ tag identifier : Byte, exec (.unknownCommand tag (.parameter identifier)) s =
        .next (afterTransfer s.link s (response .badvalue tag 0x60 [])))
    ∧ (∀ tag : Byte, exec (.nop tag) s =
        .next (afterTransfer s.link s (response .done tag 0x00 [])))

/-- READ_STATUS reports the values of Table 9-2 in the layout of Table 10-6 and changes no state (R152). -/
def Obligations.ReadStatusReportsTheMachine : Prop :=
  ∀ (s : State) (tag : Byte), Ready s →
    exec (.readStatus tag) s = .next (afterTransfer s.link s (response .done tag 0x01
      ([modeCode s.mode,
        byteOf s.calendar.active.val ||| (flagByte s.calendar.pendingSwitch <<< 1)
          ||| (flagByte s.pendingDisengage <<< 2)]
        ++ halfBytes s.calendar.frame
        ++ [byteOf s.calendar.slot.val]
        ++ halfBytes (BitVec.ofNat 16 s.calendar.ticks)
        ++ [portStateCode s.ports[0].state ||| (portStateCode s.ports[1].state <<< 2)
              ||| (portStateCode s.ports[2].state <<< 4) ||| (portStateCode s.ports[3].state <<< 6),
            byteOf s.ports[0].queue.length, byteOf s.ports[1].queue.length,
            byteOf s.ports[2].queue.length, byteOf s.ports[3].queue.length,
            (byteOf s.memory.issue.length <<< 4)
              ||| byteOf (s.memory.issue.countP fun e => e.state = .abandoned),
            byteOf s.events.queue.length, byteOf s.events.pendingLoss])))

/-- A command of the bus or of a block acts on the state in which all that is due has come about: no entry stands at
its limit, no drain is complete, no acceptable arrival is held off (R44, R104, R118). What comes about is what the
rows ENTRY_TIMEOUT, DRAIN_COMPLETE and HELD_ARRIVAL_TAKE name, one after another; an expiry is never due, for it is
part of the tick that brings it (R12). That all this comes about within the next command, and the order among it, are
the model's choice (assumptions 2 and 16). -/
def Obligations.WhatIsDueComesAboutBeforeACommandActs : Prop :=
  ∀ s : State, s.inReset = false →
    let u := settle { s with outputs := quietOutputs }
    NothingDue u
    ∧ (∀ c : Instr, rowKind c = .bus ∨ (rowKind c = .service ∧ linkOpen s = true) →
        ∃ t, exec c u = .next t ∧ exec c s = .next (withAnswersBefore u t))
    ∧ ((∃ e ∈ s.memory.issue, AtLimit e) → ∃ t, exec .entryTimeout s = .next t ∧ u = settle t)
    ∧ ((∀ e ∈ s.memory.issue, ¬ AtLimit e) → s.mode = .engaging → DrainComplete s →
        ∃ t, exec .drainComplete s = .next t ∧ u = settle t)
    ∧ (∀ p : Port, (∀ e ∈ s.memory.issue, ¬ AtLimit e) → ¬ (s.mode = .engaging ∧ DrainComplete s) →
        Releasable s p → (∀ q : Port, q.val < p.val → ¬ Releasable s q) →
        ∃ t, exec (.heldArrivalTake p) s = .next t ∧ u = settle t)
    ∧ (NothingDue s → u = { s with outputs := quietOutputs })

/-! ### The calendar's commands -/

/-- A bank write that has passed its operand checks is refused BANKLIVE, else BUSY, else done (R6). -/
def Obligations.BankWritesAreJudgedInOrder : Prop :=
  ∀ (s : State) (tag : Byte) (b : BankIx) (slots : Byte) (i : SlotIx) (e : SlotEntry),
    Ready s → slots.toNat ≠ 1 → slots.toNat ≤ 32 → e.Valid →
    let header := Instr.writeBankHeader tag (byteOf b.val) slots
    let slot := Instr.writeSlot tag (byteOf b.val) (byteOf i.val) (entryWord e)
    let live := b = s.calendar.active ∧ (s.mode = .engaging ∨ s.mode = .engaged)
    (live →
      exec header s = .next (afterTransfer s.link s (response .banklive tag 0x10 []))
      ∧ exec slot s = .next (afterTransfer s.link s (response .banklive tag 0x11 [])))
    ∧ (¬ live → s.calendar.pendingSwitch = true →
        exec header s = .next (afterTransfer s.link s (response .busy tag 0x10 []))
        ∧ exec slot s = .next (afterTransfer s.link s (response .busy tag 0x11 [])))
    ∧ (¬ live → s.calendar.pendingSwitch = false →
        (∃ t, exec header s = .next t ∧ t.link.held.map Response.status = some .done)
        ∧ ∃ t, exec slot s = .next t ∧ t.link.held.map Response.status = some .done)

/-- WRITE_BANK_HEADER sets S, keeps the 32 entries, and recomputes the signature over the slot-count byte and
the entries of slots 0 to S−1; a wrong bank or slot count is refused BADVALUE (R4, R7). -/
def Obligations.WriteBankHeaderSetsTheSlotCount : Prop :=
  ∀ (s : State) (tag : Byte), Ready s →
    (∀ bank slots : Byte, 2 ≤ bank.toNat ∨ slots.toNat = 1 ∨ 32 < slots.toNat →
      exec (.writeBankHeader tag bank slots) s =
        .next (afterTransfer s.link s (response .badvalue tag 0x10 [])))
    ∧ (∀ (b : BankIx) (slots : Byte), slots.toNat ≠ 1 → slots.toNat ≤ 32 →
        ¬ (b = s.calendar.active ∧ (s.mode = .engaging ∨ s.mode = .engaged)) →
        s.calendar.pendingSwitch = false →
        let entries := s.calendar.banks[b].entries
        let signature := crc (slots :: (entries.toList.take slots.toNat).flatMap slotEntryBytes)
        exec (.writeBankHeader tag (byteOf b.val) slots) s = .next (afterTransfer s.link
          { s with calendar := { s.calendar with
            banks := s.calendar.banks.set b ⟨slots.toNat, entries, signature⟩ } }
          (response .done tag 0x10 (slots :: halfBytes signature))))

/-- WRITE_SLOT replaces one entry whole and recomputes the signature, which an entry at or above S leaves as
it was; operands out of range are refused BADVALUE (R4, R8). -/
def Obligations.WriteSlotReplacesOneEntry : Prop :=
  ∀ (s : State) (tag : Byte), Ready s →
    (∀ (bank index : Byte) (entry : Quad),
      2 ≤ bank.toNat ∨ 32 ≤ index.toNat ∨ 6 ≤ (entry.extractLsb' 28 4).toNat
        ∨ 2 ≤ (entry.extractLsb' 24 4).toNat ∨ (entry.extractLsb' 8 16).toNat = 0
        ∨ 4096 ≤ (entry.extractLsb' 8 16).toNat →
      exec (.writeSlot tag bank index entry) s =
        .next (afterTransfer s.link s (response .badvalue tag 0x11 [])))
    ∧ (∀ (b : BankIx) (i : SlotIx) (e : SlotEntry), e.Valid →
        ¬ (b = s.calendar.active ∧ (s.mode = .engaging ∨ s.mode = .engaged)) →
        s.calendar.pendingSwitch = false →
        let old := s.calendar.banks[b]
        let signature := signatureOf old.slots (old.entries.set i e)
        exec (.writeSlot tag (byteOf b.val) (byteOf i.val) (entryWord e)) s = .next (afterTransfer s.link
            { s with calendar := { s.calendar with
              banks := s.calendar.banks.set b ⟨old.slots, old.entries.set i e, signature⟩ } }
            (response .done tag 0x11 (byteOf old.slots :: halfBytes signature)))
          ∧ (old.slots ≤ i.val → signature = signatureOf old.slots old.entries))

/-- READ_BANK, READ_SLOT, READ_WINDOW and READ_ACCOUNT return what is stored and change nothing; an index out
of range is refused BADVALUE (R9, R40, R74). -/
def Obligations.ReadsReturnWhatIsStored : Prop :=
  ∀ (s : State) (tag : Byte), Ready s →
    (∀ b : BankIx, exec (.readBank tag (byteOf b.val)) s = .next (afterTransfer s.link s
      (response .done tag 0x12
        (byteOf s.calendar.banks[b].slots :: halfBytes s.calendar.banks[b].signature))))
    ∧ (∀ (b : BankIx) (i : SlotIx),
        exec (.readSlot tag (byteOf b.val) (byteOf i.val)) s = .next (afterTransfer s.link s
          (response .done tag 0x13 (slotEntryBytes s.calendar.banks[b].entries[i]))))
    ∧ (∀ (p : Port) (i : WindowIx),
        exec (.readWindow tag (byteOf p.val) (byteOf i.val)) s = .next (afterTransfer s.link s
          (response .done tag 0x21 (windowResult (s.windows[p])[i]))))
    ∧ (∀ a : AccountIx, exec (.readAccount tag (byteOf a.val)) s = .next (afterTransfer s.link s
        (response .done tag 0x31 (accountResult s.accounts[a]))))
    ∧ (∀ x y : Byte,
        (2 ≤ x.toNat → exec (.readBank tag x) s =
          .next (afterTransfer s.link s (response .badvalue tag 0x12 [])))
        ∧ (2 ≤ x.toNat ∨ 32 ≤ y.toNat → exec (.readSlot tag x y) s =
          .next (afterTransfer s.link s (response .badvalue tag 0x13 [])))
        ∧ (4 ≤ x.toNat ∨ 8 ≤ y.toNat → exec (.readWindow tag x y) s =
          .next (afterTransfer s.link s (response .badvalue tag 0x21 [])))
        ∧ (8 ≤ x.toNat → exec (.readAccount tag x) s =
          .next (afterTransfer s.link s (response .badvalue tag 0x31 []))))

/-- SWITCH is judged on the mode, a pending switch, the staging bank's S and its signature, in that order; an
accepted one sets the pending-switch flag and nothing else. The flag is clear after reset (R16). -/
def Obligations.SwitchIsJudgedInOrder : Prop :=
  State.reset.calendar.pendingSwitch = false ∧ ∀ (s : State) (tag : Byte) (signature : Half) (staging : BankIx), Ready s →
    staging ≠ s.calendar.active →
    (s.mode ≠ .engaged → exec (.switch tag signature) s =
      .next (afterTransfer s.link s (response .mode tag 0x14 [])))
    ∧ (s.mode = .engaged → s.calendar.pendingSwitch = true → exec (.switch tag signature) s =
        .next (afterTransfer s.link s (response .busy tag 0x14 [])))
    ∧ (s.mode = .engaged → s.calendar.pendingSwitch = false →
        (s.calendar.banks[staging].slots = 0 → exec (.switch tag signature) s =
          .next (afterTransfer s.link s (response .badvalue tag 0x14 [])))
        ∧ (s.calendar.banks[staging].slots ≠ 0 →
            (s.calendar.banks[staging].signature ≠ signature → exec (.switch tag signature) s =
              .next (afterTransfer s.link s (response .signature tag 0x14 [])))
            ∧ (s.calendar.banks[staging].signature = signature → exec (.switch tag signature) s =
              .next (afterTransfer s.link
                { s with calendar := { s.calendar with pendingSwitch := true } }
                (response .accepted tag 0x14 [])))))

/-- CANCEL_SWITCH clears a pending switch, in every mode, and is otherwise answered NOTPENDING (R18). -/
def Obligations.CancelSwitchClearsThePendingFlag : Prop :=
  ∀ (s : State) (tag : Byte), Ready s →
    (s.calendar.pendingSwitch = true → exec (.cancelSwitch tag) s = .next (afterTransfer s.link
      { s with calendar := { s.calendar with pendingSwitch := false } } (response .done tag 0x15 [])))
    ∧ (s.calendar.pendingSwitch = false → exec (.cancelSwitch tag) s =
        .next (afterTransfer s.link s (response .notpending tag 0x15 [])))

/-- SET_PARAM for the tick divider and for the depth: BADVALUE out of range, MODE in ENGAGING and ENGAGED, for
the depth BUSY while the list holds an entry or an offer is outstanding, and otherwise done (R2, R111). -/
def Obligations.DividerAndDepthAreSetOutsideEngagement : Prop :=
  ∀ (s : State) (tag : Byte) (value : Quad), Ready s →
    ((value.toNat < 1 ∨ 65536 < value.toNat) → exec (.setTickDivider tag value) s =
      .next (afterTransfer s.link s (response .badvalue tag 0x60 [])))
    ∧ (1 ≤ value.toNat → value.toNat ≤ 65536 →
        (s.mode = .engaging ∨ s.mode = .engaged → exec (.setTickDivider tag value) s =
          .next (afterTransfer s.link s
            (response .mode tag 0x60 (0x01 :: quadBytes (BitVec.ofNat 32 s.calendar.divider)))))
        ∧ (s.mode = .pass ∨ s.mode = .halted → exec (.setTickDivider tag value) s =
            .next (afterTransfer s.link
              { s with calendar := { s.calendar with divider := value.toNat } }
              (response .done tag 0x60 (0x01 :: quadBytes value)))))
    ∧ ((value.toNat < 1 ∨ 4 < value.toNat) → exec (.setDepth tag value) s =
        .next (afterTransfer s.link s (response .badvalue tag 0x60 [])))
    ∧ (1 ≤ value.toNat → value.toNat ≤ 4 →
        (s.mode = .engaging ∨ s.mode = .engaged → exec (.setDepth tag value) s =
          .next (afterTransfer s.link s
            (response .mode tag 0x60 (0x02 :: quadBytes (BitVec.ofNat 32 s.memory.depth)))))
        ∧ (s.mode = .pass ∨ s.mode = .halted →
            (s.memory.issue ≠ [] ∨ s.offer ≠ none → exec (.setDepth tag value) s =
              .next (afterTransfer s.link s
                (response .busy tag 0x60 (0x02 :: quadBytes (BitVec.ofNat 32 s.memory.depth)))))
            ∧ (s.memory.issue = [] → s.offer = none → exec (.setDepth tag value) s =
              .next (afterTransfer s.link
                { s with memory := { s.memory with depth := value.toNat } }
                (response .done tag 0x60 (0x02 :: quadBytes value))))))

/-- SET_PARAM for the timeout, the fault action, the fence limit and the alert mask takes effect in every mode;
a value out of range is refused BADVALUE. ALERT# is judged again with a new mask (R60, R107, R112, R136). -/
def Obligations.ParametersSetInEveryMode : Prop :=
  ∀ (s : State) (tag : Byte) (value : Quad), Ready s →
    (value.toNat ≤ 65535 → exec (.setTimeout tag value) s = .next (afterTransfer s.link
      { s with memory := { s.memory with timeout := value.toNat } }
      (response .done tag 0x60 (0x03 :: quadBytes value))))
    ∧ (65535 < value.toNat → exec (.setTimeout tag value) s =
        .next (afterTransfer s.link s (response .badvalue tag 0x60 [])))
    ∧ (value.toNat = 0 → exec (.setFaultAction tag value) s = .next (afterTransfer s.link
        { s with memory := { s.memory with faultAction := .carryOn } }
        (response .done tag 0x60 (0x04 :: quadBytes value))))
    ∧ (value.toNat = 1 → exec (.setFaultAction tag value) s = .next (afterTransfer s.link
        { s with memory := { s.memory with faultAction := .halt } }
        (response .done tag 0x60 (0x04 :: quadBytes value))))
    ∧ (1 < value.toNat → exec (.setFaultAction tag value) s =
        .next (afterTransfer s.link s (response .badvalue tag 0x60 [])))
    ∧ (value.toNat ≤ 15 → exec (.setFenceLimit tag value) s = .next (afterTransfer s.link
        { s with fenceLimit := value.toNat } (response .done tag 0x60 (0x05 :: quadBytes value))))
    ∧ (15 < value.toNat → exec (.setFenceLimit tag value) s =
        .next (afterTransfer s.link s (response .badvalue tag 0x60 [])))
    ∧ (value.toNat < 8192 → exec (.setAlertMask tag value) s = .next (afterTransfer s.link
        { s with events := { s.events with
          mask := value.setWidth 13
          alert := s.events.queue.any fun e => value.getLsbD (eventKindCode e.report.kind) } }
        (response .done tag 0x60 (0x06 :: quadBytes value))))
    ∧ (8192 ≤ value.toNat → exec (.setAlertMask tag value) s =
        .next (afterTransfer s.link s (response .badvalue tag 0x60 [])))

/-! ### The windows and the accounts -/

/-- WRITE_WINDOW replaces one window whole, in every mode, and returns it; operands out of range, and a base
above the limit, are refused BADVALUE (R73). -/
def Obligations.WriteWindowReplacesOneWindow : Prop :=
  ∀ (s : State) (tag : Byte), Ready s →
    (∀ (p : Port) (i : WindowIx) (w : Window), w.base ≤ w.limit → w.limit ≤ 4194303 →
      exec (.writeWindow tag (byteOf p.val) (byteOf i.val) (rawWindow w)) s = .next (afterTransfer s.link
        { s with windows := s.windows.set p (s.windows[p].set i w) }
        (response .done tag 0x20 (windowResult w))))
    ∧ (∀ (port window : Byte) (raw : RawWindow),
        4 ≤ port.toNat ∨ 8 ≤ window.toNat ∨ 2 ≤ raw.valid.toNat
          ∨ raw.access.toNat = 0 ∨ 4 ≤ raw.access.toNat ∨ 8 ≤ raw.account.toNat
          ∨ 4194303 < raw.base.toNat ∨ 4194303 < raw.limit.toNat
          ∨ raw.limit.toNat < raw.base.toNat →
        exec (.writeWindow tag port window raw) s =
          .next (afterTransfer s.link s (response .badvalue tag 0x20 [])))

/-- WRITE_ACCOUNT replaces the preload, period, parent and exhaust mode and no other field, is refused LOOP
when the named account lies on the new parent's chain, and has the selector judge its offer afresh
(R26, R35, R36, R92). -/
def Obligations.WriteAccountDescribesTheAccount : Prop :=
  ∀ (s : State) (tag : Byte), Ready s →
    (∀ (a : AccountIx) (preload : Half) (period : Byte) (parent : Option AccountIx) (x : ExhaustMode),
      period ≠ 0 → parent ≠ some a →
      let c := Instr.writeAccount tag (byteOf a.val) preload period (parentCode parent)
        (exhaustModeCode x)
      let described : Account :=
        { s.accounts[a] with preload := preload.toNat, period := period.toNat, parent, exhaust := x }
      ((∃ p, parent = some p ∧ a ∈ chain s.accounts p) →
        exec c s = .next (afterTransfer s.link s (response .loop tag 0x30 [])))
      ∧ ((∀ p, parent = some p → a ∉ chain s.accounts p) →
          exec c s = .next (afterTransfer s.link
            (rejudged { s with accounts := s.accounts.set a described })
            (response .done tag 0x30 (accountResult described)))))
    ∧ (∀ (account : Byte) (preload : Half) (period parent exhaust : Byte),
        8 ≤ account.toNat ∨ period = 0 ∨ (8 ≤ parent.toNat ∧ parent ≠ 0xFF) ∨ parent = account
          ∨ 2 ≤ exhaust.toNat →
        exec (.writeAccount tag account preload period parent exhaust) s =
          .next (afterTransfer s.link s (response .badvalue tag 0x30 [])))

/-- STAGE_OVERRIDE stages a value or clears the override in every mode and changes nothing else (R38). -/
def Obligations.OverridesAreStagedAndCleared : Prop :=
  ∀ (s : State) (tag : Byte), Ready s →
    (∀ (a : AccountIx) (value : Half),
      exec (.stageOverride tag (byteOf a.val) 0x01 value) s = .next (afterTransfer s.link
        { s with accounts := s.accounts.set a { s.accounts[a] with override := some value.toNat } }
        (response .done tag 0x32 (0x01 :: halfBytes value))))
    ∧ (∀ a : AccountIx, exec (.clearOverride tag (byteOf a.val)) s = .next (afterTransfer s.link
        { s with accounts := s.accounts.set a { s.accounts[a] with override := none } }
        (response .done tag 0x32 [0x00, 0x00, 0x00])))
    ∧ (∀ (account flag : Byte) (value : Half),
        (8 ≤ account.toNat ∨ 2 ≤ flag.toNat →
          exec (.stageOverride tag account flag value) s =
            .next (afterTransfer s.link s (response .badvalue tag 0x32 [])))
        ∧ (8 ≤ account.toNat → exec (.clearOverride tag account) s =
            .next (afterTransfer s.link s (response .badvalue tag 0x32 []))))

/-- A refill sets the count from the override, else from the preload less the debt, else from the preload, and
a countdown that runs out refills and reloads (R30, R31). -/
def Obligations.RefillFollowsItsThreeCases : Prop :=
  ∀ a : Account,
    (∀ v, a.override = some v → refill a = { a with count := v, override := none })
    ∧ (a.override = none → a.count < 0 → refill a = { a with count := a.preload + a.count })
    ∧ (a.override = none → 0 ≤ a.count → refill a = { a with count := a.preload })
    ∧ (a.countdown = 1 → countDown a = { refill a with countdown := a.period })
    ∧ (2 ≤ a.countdown → countDown a = { a with countdown := a.countdown - 1 })
    ∧ (a.InRange → (countDown a).InRange)

/-- REFILL_NOW is refused MODE outside ENGAGED. In ENGAGED it refills the account, leaves its countdown, and has
the selector judge its offer afresh (R26, R39, R92). -/
def Obligations.RefillNowRefillsWhileEngaged : Prop :=
  ∀ (s : State) (tag : Byte) (a : AccountIx), Ready s →
    (s.mode ≠ .engaged → exec (.refillNow tag (byteOf a.val)) s =
      .next (afterTransfer s.link s (response .mode tag 0x33 [])))
    ∧ (s.mode = .engaged →
        let x := refill s.accounts[a]
        x.countdown = s.accounts[a].countdown
        ∧ exec (.refillNow tag (byteOf a.val)) s = .next (afterTransfer s.link
            (rejudged { s with accounts := s.accounts.set a x })
            (response .done tag 0x33
              (quadBytes (BitVec.ofInt 32 x.count) ++ flagByte x.override.isSome
                :: halfBytes (BitVec.ofNat 16 (x.override.getD 0))))))
    ∧ (∀ account : Byte, 8 ≤ account.toNat → exec (.refillNow tag account) s =
        .next (afterTransfer s.link s (response .badvalue tag 0x33 [])))

/-! ### The modes -/

/-- ENGAGE is judged on the mode, the named bank's S and its signature. Accepted, it names the active bank and
enters ENGAGING, and goes on to ENGAGED in the same operation if the drain is complete (R117, R118, R119). That no
command comes between the two MODE_CHANGE events of that operation is the model's choice (assumption 19). -/
def Obligations.EngageIsJudgedAndDrains : Prop :=
  ∀ (s : State) (tag : Byte) (b : BankIx) (signature : Half), Ready s →
    let c := Instr.engage tag (byteOf b.val) signature
    let engaging := report
      { s with mode := .engaging, calendar := { s.calendar with active := b } }
      { kind := .modeChange, detail := some 0x01 }
    (s.mode ≠ .pass → exec c s = .next (afterTransfer s.link s (response .mode tag 0x40 [])))
    ∧ (s.mode = .pass → s.calendar.banks[b].slots = 0 →
        exec c s = .next (afterTransfer s.link s (response .badvalue tag 0x40 [])))
    ∧ (s.mode = .pass → s.calendar.banks[b].slots ≠ 0 → s.calendar.banks[b].signature ≠ signature →
        exec c s = .next (afterTransfer s.link s (response .signature tag 0x40 [])))
    ∧ (s.mode = .pass → s.calendar.banks[b].slots ≠ 0 → s.calendar.banks[b].signature = signature →
        (¬ DrainComplete s → exec c s = .next (afterTransfer s.link engaging
          (response .accepted tag 0x40 [0x01, byteOf b.val])))
        ∧ (DrainComplete s → s.offer = none → exec c s = .next (afterTransfer s.link
            (startedRun engaging) (response .accepted tag 0x40 [0x02, byteOf b.val]))))
    ∧ (∀ bank : Byte, 2 ≤ bank.toNat → exec (.engage tag bank signature) s =
        .next (afterTransfer s.link s (response .badvalue tag 0x40 [])))

/-- When the drain of ENGAGING completes, the mode becomes ENGAGED and the run starts (R11, R33, R118, R119).
Where it is not due, the row changes nothing, which is the model's choice (assumption 2). -/
def Obligations.DrainCompletionStartsTheRun : Prop :=
  ∀ s : State, s.inReset = false →
    (s.mode = .engaging → DrainComplete s → s.offer = none →
      exec .drainComplete s = .next (startedRun { s with outputs := quietOutputs }))
    ∧ (s.mode ≠ .engaging ∨ ¬ DrainComplete s →
        exec .drainComplete s = .next { s with outputs := quietOutputs })

/-- DISENGAGE on the mode and the flag: the five rows of R120, with the mode and the flag in every result. -/
def Obligations.DisengageFollowsTheModeAndTheFlag : Prop :=
  ∀ (s : State) (tag : Byte), Ready s →
    (s.mode = .engaged → s.pendingDisengage = false → exec (.disengage tag) s =
      .next (afterTransfer s.link { s with pendingDisengage := true }
        (response .accepted tag 0x41 [0x02, 0x01])))
    ∧ (s.mode = .engaged → s.pendingDisengage = true → exec (.disengage tag) s =
        .next (afterTransfer s.link s (response .busy tag 0x41 [0x02, 0x01])))
    ∧ (s.mode = .engaging → s.pendingDisengage = false → exec (.disengage tag) s =
        .next (afterTransfer s.link
          (offering (report { s with mode := .pass } { kind := .modeChange, detail := some 0x00 }))
          (response .done tag 0x41 [0x00, 0x00])))
    ∧ (s.mode = .pass → s.pendingDisengage = false → exec (.disengage tag) s =
        .next (afterTransfer s.link s (response .done tag 0x41 [0x00, 0x00])))
    ∧ (s.mode = .halted → s.pendingDisengage = false → exec (.disengage tag) s =
        .next (afterTransfer s.link s (response .mode tag 0x41 [0x03, 0x00])))

/-- HALT enters HALTED with every effect of R122 and R123, and answers with the number of records settled; in
HALTED it is done with no change. That MODE_CHANGE follows the PORT_QUIESCED of the same halt is the model's deduction
(assumption 9), and the order of several PORT_QUIESCED is left free (assumption 4). That no command comes
between these events is the model's choice (assumption 19). -/
def Obligations.HaltSettlesEveryWaitingRecord : Prop :=
  ∀ (s : State) (tag : Byte), Ready s →
    (s.mode = .halted → exec (.halt tag) s =
      .next (afterTransfer s.link s (response .done tag 0x42 [0x03, 0x00])))
    ∧ (s.mode ≠ .halted → ∃ t, exec (.halt tag) s = .next t
        ∧ HaltedFrom { s with outputs := transferOutputs s.link } t
        ∧ t.outputs.ldo = (transferOutputs s.link).ldo
        ∧ t.outputs.presented = (transferOutputs s.link).presented
        ∧ t.link = closedLink (response .done tag 0x42 [0x03,
            byteOf (([0, 1, 2, 3] : List Port).map fun p =>
              s.ports[p].queue.countP fun r => r.state = .waiting).sum]))

/-- RESTART brings HALTED to PASS, clears the run position, and is refused MODE in any other mode (R126). -/
def Obligations.RestartReturnsToPass : Prop :=
  ∀ (s : State) (tag : Byte), Ready s →
    (s.mode ≠ .halted → exec (.restart tag) s =
      .next (afterTransfer s.link s (response .mode tag 0x43 [])))
    ∧ (s.mode = .halted → exec (.restart tag) s = .next (afterTransfer s.link
        (offering (report
          { s with
            mode := .pass
            calendar := { s.calendar with frame := 0, slot := 0, ticks := 0, pendingSwitch := false } }
          { kind := .modeChange, detail := some 0x00 }))
        (response .done tag 0x43 [0x00])))

/-! ### The ports' commands -/

/-- QUIESCE on a port: BUSY while it is QUIESCING or QUIESCED. Otherwise it becomes QUIESCING, its WAITING records
are flushed if the flag is set, it answers its front, and it is QUIESCED at once if its queue is then empty
(R53, R54, R55, R82). -/
def Obligations.QuiesceDrainsThePort : Prop :=
  ∀ (s : State) (tag : Byte) (p : Port) (flush : Bool), Ready s →
    (s.ports[p].state = .quiescing ∨ s.ports[p].state = .quiesced →
      exec (.quiesce tag (byteOf p.val) (flagByte flush)) s =
        .next (afterTransfer s.link s (response .busy tag 0x50 [])))
    ∧ (s.ports[p].state = .active ∨ s.ports[p].state = .fenced →
        let q := if flush then
            s.ports[p].queue.map fun r => if r.state = .waiting then { r with state := .done .flushed } else r
          else s.ports[p].queue
        let asked : State := { s with
          ports := s.ports.set p { s.ports[p] with state := .quiescing }
          offer := if flush then s.offer.filter (·.port != p) else s.offer
          outputs := transferOutputs s.link }
        let t := offering (answered asked p q)
        exec (.quiesce tag (byteOf p.val) (flagByte flush)) s = .next { t with
          link := closedLink (response .accepted tag 0x50
            [portStateCode t.ports[p].state, byteOf t.ports[p].queue.length]) })
    ∧ (∀ port flag : Byte, 4 ≤ port.toNat ∨ 2 ≤ flag.toNat → exec (.quiesce tag port flag) s =
        .next (afterTransfer s.link s (response .badvalue tag 0x50 [])))

/-- RESUME makes a port that is not ACTIVE ACTIVE with strike count 0, and changes nothing else (R57). An arrival
held off until then is taken before the next command, which is the model's choice (assumption 2). -/
def Obligations.ResumeMakesThePortActive : Prop :=
  ∀ (s : State) (tag : Byte) (p : Port), Ready s →
    (s.ports[p].state ≠ .active → exec (.resume tag (byteOf p.val)) s = .next (afterTransfer s.link
      { s with ports := s.ports.set p { s.ports[p] with state := .active, strikes := 0 } }
      (response .done tag 0x51 [])))
    ∧ (s.ports[p].state = .active → exec (.resume tag (byteOf p.val)) s =
        .next (afterTransfer s.link s (response .done tag 0x51 [])))
    ∧ (∀ port : Byte, 4 ≤ port.toNat → exec (.resume tag port) s =
        .next (afterTransfer s.link s (response .badvalue tag 0x51 [])))

/-! ### Events and statistics -/

/-- DISCARD_ABANDONED removes every ABANDONED entry, keeps the others in order, reports the two counts, and
lets the selector offer (R79, R109). -/
def Obligations.DiscardAbandonedKeepsTheOthers : Prop :=
  ∀ (s : State) (tag : Byte), Ready s →
    let kept := s.memory.issue.filter fun e => e.state == .waiting
    exec (.discardAbandoned tag) s = .next (afterTransfer s.link
      (offering { s with memory := { s.memory with issue := kept } })
      (response .done tag 0x61
        [byteOf (s.memory.issue.countP fun e => e.state = .abandoned), byteOf kept.length]))

/-- READ_EVENT returns the oldest record in the layout of Table 10-7, or EMPTY with the pending loss count, and
changes no state (R133). -/
def Obligations.ReadEventLeavesTheRecord : Prop :=
  ∀ (s : State) (tag : Byte), Ready s →
    (s.events.queue = [] → exec (.readEvent tag) s = .next (afterTransfer s.link s
      (response .empty tag 0x70 [byteOf s.events.pendingLoss])))
    ∧ (∀ e rest, s.events.queue = e :: rest → exec (.readEvent tag) s = .next (afterTransfer s.link s
        (response .done tag 0x70
          (halfBytes e.sequence
            ++ [byteOf (eventKindCode e.report.kind), byteOf e.lostBefore]
            ++ halfBytes e.position.frame
            ++ [byteOf e.position.slot.val, presenceByte e.report,
                byteOf ((e.report.port.map Fin.val).getD 0),
                byteOf ((e.report.account.map Fin.val).getD 0)]
            ++ quadBytes (e.report.address.getD 0)
            ++ [e.report.detail.getD 0, byteOf s.events.queue.length]))))

/-- ACK_EVENT removes the oldest record if its number matches, and judges ALERT# again; otherwise it is STALE
and the queue is unchanged (R134, R137). -/
def Obligations.AckEventRemovesOnlyTheOldest : Prop :=
  ∀ (s : State) (tag : Byte) (sequence : Half), Ready s →
    (s.events.queue = [] → exec (.ackEvent tag sequence) s = .next (afterTransfer s.link s
      (response .stale tag 0x71 [0x00, 0x00, 0x00, 0x00])))
    ∧ (∀ e rest, s.events.queue = e :: rest →
        (e.sequence ≠ sequence → exec (.ackEvent tag sequence) s = .next (afterTransfer s.link s
          (response .stale tag 0x71
            (byteOf s.events.queue.length :: 0x01 :: halfBytes e.sequence))))
        ∧ (e.sequence = sequence → exec (.ackEvent tag sequence) s = .next (afterTransfer s.link
            { s with events := { s.events with
              queue := rest
              alert := rest.any fun x => inMask s.events.mask x.report.kind } }
            (response .done tag 0x71
              (match rest with
              | [] => [0x00, 0x00, 0x00, 0x00]
              | f :: _ => byteOf rest.length :: 0x01 :: halfBytes f.sequence)))))

/-- READ_STATS returns one object's statistics and, with the clear flag set, clears exactly those
(R140, R157). -/
def Obligations.ReadStatsClearsWhatItReturns : Prop :=
  ∀ (s : State) (tag : Byte) (clear : Bool), Ready s →
    (∀ p : Port, exec (.readStats tag (byteOf p.val) (flagByte clear)) s = .next (afterTransfer s.link
      (if clear then
        { s with portStats := s.portStats.set p { s.portStats[p] with
          passBeats := 0, inBudgetBeats := 0, lentBeats := 0, backgroundBeats := 0 } }
      else s)
      (response .done tag 0x72
        (quadBytes s.portStats[p].passBeats ++ quadBytes s.portStats[p].inBudgetBeats
          ++ quadBytes s.portStats[p].lentBeats ++ quadBytes s.portStats[p].backgroundBeats))))
    ∧ (∀ p : Port, exec (.readStats tag (byteOf (p.val + 4)) (flagByte clear)) s =
        .next (afterTransfer s.link
          (if clear then
            { s with portStats := s.portStats.set p { s.portStats[p] with refusals := 0, spills := 0 } }
          else s)
          (response .done tag 0x72
            (quadBytes s.portStats[p].refusals ++ quadBytes s.portStats[p].spills))))
    ∧ (∀ a : AccountIx, exec (.readStats tag (byteOf (a.val + 16)) (flagByte clear)) s =
        .next (afterTransfer s.link
          (if clear then { s with accountStats := s.accountStats.set a ⟨0, 0⟩ } else s)
          (response .done tag 0x72
            (quadBytes s.accountStats[a].charged
              ++ quadBytes (BitVec.ofNat 32 s.accountStats[a].exhaustions)))))
    ∧ (∀ object flag : Byte,
        (8 ≤ object.toNat ∧ object.toNat < 16) ∨ 24 ≤ object.toNat ∨ 2 ≤ flag.toNat →
        exec (.readStats tag object flag) s =
          .next (afterTransfer s.link s (response .badvalue tag 0x72 [])))

/-- An event that finds fewer than 32 records is stored with the next number, the pending loss count and the
present position, and ALERT# is judged; one that finds 32 is dropped and counted (R130, R131, R137). -/
def Obligations.EventsAreStoredOrDropped : Prop :=
  ∀ (s : State) (r : Report),
    (s.events.queue.length < 32 →
      let queue := s.events.queue ++
        [⟨s.events.nextSequence, s.events.pendingLoss, ⟨s.calendar.frame, s.calendar.slot⟩, r⟩]
      report s r = { s with events := { s.events with
        queue
        nextSequence := s.events.nextSequence + 1
        pendingLoss := 0
        alert := queue.any fun e => inMask s.events.mask e.report.kind } })
    ∧ (32 ≤ s.events.queue.length →
        report s r = { s with events := { s.events with
          pendingLoss := min (s.events.pendingLoss + 1) 255 } })

/-! ### Ticks, slots and frames -/

/-- A tick adds one to the tick count of every entry that waits for its completion, in every mode, and takes one
from the ticks remaining while ENGAGED; the offer is withdrawn when the slot is then closing. A tick that takes the
ticks remaining to 0 ends the slot in the same step, as the row SLOT_EXPIRY or FRAME_BOUNDARY says
(R1, R12, R13, R82, R98). That those rows are this tick, and that an entry which reaches its limit in it times out
by ENTRY_TIMEOUT or before the next command, are the model's choice (assumption 2). -/
def Obligations.TickCountsTheEntriesAndTheSlot : Prop :=
  ∀ s : State, Awake s →
    (s.mode ≠ .engaged → exec .tick s = .next { s with
      memory := { s.memory with issue := tickedList s.memory.issue }, outputs := quietOutputs })
    ∧ (s.mode = .engaged → 2 ≤ s.calendar.ticks → exec .tick s = .next { s with
        memory := { s.memory with issue := tickedList s.memory.issue }
        calendar := { s.calendar with ticks := s.calendar.ticks - 1 }
        offer :=
          if s.calendar.ticks - 1 ≤ s.calendar.banks[s.calendar.active].entries[s.calendar.slot].cutoff
          then none else s.offer
        outputs := quietOutputs })
    ∧ (s.mode = .engaged → s.calendar.ticks = 1 →
        (s.calendar.slot.val + 1 < s.calendar.banks[s.calendar.active].slots →
          ∃ t, exec .slotExpiry s = .next t ∧ exec .tick s = .next t)
        ∧ (s.calendar.banks[s.calendar.active].slots ≤ s.calendar.slot.val + 1 →
          ∃ t, exec .frameBoundary s = .next t ∧ exec .tick s = .next t))

/-- The tick in which a slot below S−1 expires: the entries count it, the next slot starts, and the selector chooses
for it (R12, R14, R79, R82, R86, R98). The row is that tick; where the next tick ends no such slot, it changes nothing.
Both are the model's choice (assumption 2). -/
def Obligations.SlotExpiryStartsTheNextSlot : Prop :=
  ∀ s : State, Awake s →
    (∀ i : SlotIx, s.mode = .engaged → s.calendar.ticks = 1 → i.val = s.calendar.slot.val + 1 →
      i.val < s.calendar.banks[s.calendar.active].slots →
      exec .slotExpiry s = .next (offering { s with
        memory := { s.memory with issue := tickedList s.memory.issue }
        calendar := { s.calendar with
          slot := i, ticks := s.calendar.banks[s.calendar.active].entries[i].length }
        offer := none
        outputs := quietOutputs }))
    ∧ (s.mode ≠ .engaged ∨ 2 ≤ s.calendar.ticks
        ∨ s.calendar.banks[s.calendar.active].slots ≤ s.calendar.slot.val + 1 →
        exec .slotExpiry s = .next { s with outputs := quietOutputs })

/-- The tick in which slot S−1 expires, without a pending disengage: slot 0 of the active bank starts, or, with a
switch pending, slot 0 of the other bank, which becomes active, with SWITCH_DONE (R12, R15, R17, R31, R59, R82, R98).
The row is that tick; where the next tick ends no slot S−1, it changes nothing. Both are the model's choice
(assumption 2). -/
def Obligations.FrameBoundaryContinuesOrSwitches : Prop :=
  ∀ s : State, Awake s →
    (s.mode = .engaged → s.calendar.ticks = 1 →
      s.calendar.banks[s.calendar.active].slots ≤ s.calendar.slot.val + 1 → s.pendingDisengage = false →
      let t := countedBoundary s
      (s.calendar.pendingSwitch = false →
        exec .frameBoundary s = .next (offering { t with calendar := { t.calendar with
          slot := 0, ticks := s.calendar.banks[s.calendar.active].entries[0].length } }))
      ∧ (∀ other : BankIx, s.calendar.pendingSwitch = true → other ≠ s.calendar.active →
          exec .frameBoundary s = .next (offering (report
            { t with calendar := { t.calendar with
              active := other
              pendingSwitch := false
              slot := 0
              ticks := s.calendar.banks[other].entries[0].length } }
            { kind := .switchDone, detail := some (byteOf other.val) }))))
    ∧ (s.mode ≠ .engaged ∨ 2 ≤ s.calendar.ticks
        ∨ s.calendar.slot.val + 1 < s.calendar.banks[s.calendar.active].slots →
        exec .frameBoundary s = .next { s with outputs := quietOutputs })

/-- The tick in which slot S−1 expires with a disengage pending: the boundary's own effects, then the calendar stops at
slot 0 with no ticks remaining, a pending switch is dropped with SWITCH_DROPPED, the mode becomes PASS with
MODE_CHANGE, and the selector chooses by PASS rotation (R12, R17, R19, R32, R94, R121). That the row is that tick,
and that no command comes between its two events, are the model's choice (assumptions 2 and 19). -/
def Obligations.FrameBoundaryTakesAPendingDisengage : Prop :=
  ∀ s : State, Awake s → s.mode = .engaged → s.calendar.ticks = 1 →
    s.calendar.banks[s.calendar.active].slots ≤ s.calendar.slot.val + 1 → s.pendingDisengage = true →
    let t := countedBoundary s
    let stopped : State := { t with
      mode := .pass
      pendingDisengage := false
      calendar := { t.calendar with slot := 0, ticks := 0, pendingSwitch := false } }
    exec .frameBoundary s = .next (offering (report
      (if s.calendar.pendingSwitch then
        report stopped { kind := .switchDropped, detail := some (byteOf s.calendar.active.val) }
      else stopped)
      { kind := .modeChange, detail := some 0x00 }))

/-! ### Arrivals -/

/-- An arrival at a QUIESCING, QUIESCED or full port, or in ENGAGING, is held off; a withdrawn arrival leaves
nothing behind (R44, R45 steps 1 and 2, R160). -/
def Obligations.ArrivalsAreHeldOffAndWithdrawn : Prop :=
  ∀ (s : State) (p : Port) (t : Txn), Awake s →
    (s.ports[p].arrival = none →
      s.ports[p].state = .quiescing ∨ s.ports[p].state = .quiesced ∨ 8 ≤ s.ports[p].queue.length
        ∨ s.mode = .engaging →
      exec (.arrival p t) s = .next { s with
        ports := s.ports.set p { s.ports[p] with arrival := some t }, outputs := quietOutputs })
    ∧ exec (.arrivalWithdraw p) s = .next { s with
        ports := s.ports.set p { s.ports[p] with arrival := none }, outputs := quietOutputs }

/-- In PASS a well-formed arrival at an ACTIVE port with room is appended WAITING with no account and no window
index, whatever the windows hold (R45 step 6, R47, R66). -/
def Obligations.ArrivalInPassWaitsUnclassified : Prop :=
  ∀ (s : State) (p : Port) (t : Txn), Awake s → FrontsAnswered s → s.ports[p].arrival = none →
    s.mode = .pass → s.ports[p].state = .active → s.ports[p].queue.length < 8 → StaysInBlock t →
    exec (.arrival p t) s = .next (offering { s with
      ports := s.ports.set p { s.ports[p] with
        queue := s.ports[p].queue ++ [newRecord s t .waiting none none] }
      serial := s.serial + 1
      outputs := quietOutputs })

/-- In ENGAGED the first window in index order that covers the block decides; if it permits the kind, the
arrival is appended WAITING with that window's account and index (R65, R67, R70). -/
def Obligations.ArrivalInEngagedIsClassified : Prop :=
  ∀ (s : State) (p : Port) (t : Txn) (i : WindowIx), Awake s → FrontsAnswered s →
    s.ports[p].arrival = none → s.mode = .engaged → s.ports[p].state = .active →
    s.ports[p].queue.length < 8 → StaysInBlock t →
    let w := (s.windows[p])[i]
    let block := t.address.toNat / 1024
    w.valid = true → w.base ≤ block → block ≤ w.limit →
    (∀ j : WindowIx, j.val < i.val → ¬ ((s.windows[p])[j].valid = true
      ∧ (s.windows[p])[j].base ≤ block ∧ block ≤ (s.windows[p])[j].limit)) →
    (w.access = .both ∨ (w.access = .read ∧ t.kind = .read) ∨ (w.access = .write ∧ t.kind = .write)) →
    exec (.arrival p t) s = .next (offering { s with
      ports := s.ports.set p { s.ports[p] with
        queue := s.ports[p].queue ++ [newRecord s t .waiting (some w.account) (some i)] }
      serial := s.serial + 1
      outputs := quietOutputs })

/-- A refusal HALTED, FENCED, or MALFORMED in PASS costs no strike and produces no event: it is counted, and it is
answered at once if it stands at the front (R45 steps 3 to 5, R46, R50, R61, R124). -/
def Obligations.RefusalWithoutStrikeIsOnlyCounted : Prop :=
  ∀ (s : State) (p : Port) (t : Txn) (st : Status), Awake s → FrontsAnswered s →
    s.ports[p].arrival = none → s.ports[p].state = .active ∨ s.ports[p].state = .fenced →
    s.ports[p].queue.length < 8 →
    ((s.mode = .halted ∧ st = .halted)
      ∨ ((s.mode = .pass ∨ s.mode = .engaged) ∧ s.ports[p].state = .fenced ∧ st = .fenced)
      ∨ (s.mode = .pass ∧ s.ports[p].state = .active ∧ ¬ StaysInBlock t ∧ st = .malformed)) →
    exec (.arrival p t) s = .next (offering { s with
      ports := s.ports.set p { s.ports[p] with
        queue := if s.ports[p].queue = [] then []
          else s.ports[p].queue ++ [newRecord s t (.refused st) none none] }
      portStats := s.portStats.set p { s.portStats[p] with refusals := s.portStats[p].refusals + 1 }
      serial := s.serial + 1
      outputs := { quietOutputs with
        answers := (Vector.replicate 4 []).set p
          (if s.ports[p].queue = [] then [⟨st, none, none⟩] else []) } })

/-- A refusal MALFORMED, WINDOW or ACCESS in ENGAGED is counted, produces its event, adds a strike up to 15, and
fences the port when a fence limit that is not 0 is reached, with PORT_FENCED after the refusal's event
(R45 steps 5 and 7, R46, R59, R61, R67, R68, R69). That no ACK_EVENT comes between the two, so that PORT_FENCED meets the
event queue as the refusal's event left it, is the model's choice (assumption 19). -/
def Obligations.EngagedRefusalStrikesAndFences : Prop :=
  ∀ (s : State) (p : Port) (t : Txn) (st : Status) (window : Option WindowIx) (kind : EventKind),
    Awake s → FrontsAnswered s → s.ports[p].arrival = none → s.mode = .engaged →
    s.ports[p].state = .active → s.ports[p].queue.length < 8 →
    let covered : WindowIx → Prop := fun i => (s.windows[p])[i].valid = true
      ∧ (s.windows[p])[i].base ≤ t.address.toNat / 1024
      ∧ t.address.toNat / 1024 ≤ (s.windows[p])[i].limit
    ((¬ StaysInBlock t ∧ st = .malformed ∧ window = none ∧ kind = .malformed)
      ∨ (StaysInBlock t ∧ (∀ i, ¬ covered i) ∧ st = .window ∧ window = none ∧ kind = .windowMiss)
      ∨ (StaysInBlock t ∧ (∃ i, window = some i ∧ covered i ∧ (∀ j, j.val < i.val → ¬ covered j)
            ∧ (((s.windows[p])[i].access = .read ∧ t.kind = .write)
              ∨ ((s.windows[p])[i].access = .write ∧ t.kind = .read)))
          ∧ st = .access ∧ kind = .accessDenied)) →
    let strikes := min (s.ports[p].strikes + 1) 15
    let fenced := s.fenceLimit ≠ 0 ∧ s.fenceLimit ≤ strikes
    let refused := storeIn s.events (positionOf s.calendar)
      { kind, port := some p, address := some t.address, detail := window.map fun i => byteOf i.val }
    exec (.arrival p t) s = .next (offering { s with
      ports := s.ports.set p { s.ports[p] with
        queue := if s.ports[p].queue = [] then []
          else s.ports[p].queue ++ [newRecord s t (.refused st) none window]
        strikes
        state := if fenced then .fenced else .active }
      portStats := s.portStats.set p { s.portStats[p] with refusals := s.portStats[p].refusals + 1 }
      events := if fenced then
          storeIn refused (positionOf s.calendar)
            { kind := .portFenced, port := some p, detail := some (byteOf strikes) }
        else refused
      serial := s.serial + 1
      outputs := { quietOutputs with
        answers := (Vector.replicate 4 []).set p
          (if s.ports[p].queue = [] then [⟨st, none, none⟩] else []) } })

/-- A held arrival that the acceptance rule no longer holds off is taken exactly as if it were presented at that
moment, under the state as it then is (R44). -/
def Obligations.HeldArrivalIsJudgedAfresh : Prop :=
  ∀ (s : State) (p : Port) (t : Txn), s.ports[p].arrival = some t → heldDue s p = true →
    let released : State := { s with ports := s.ports.set p { s.ports[p] with arrival := none } }
    Awake released →
    ∃ u, exec (.heldArrivalTake p) s = .next u ∧ exec (.arrival p t) released = .next u

/-! ### Takes, completions and timeouts -/

/-- A take on grounds PASS admission or background charges nothing: the record is issued with its note, an entry
with the timeout then in force joins the list, the transaction is forwarded unaltered, the beats are counted, and
the pointer moves if a rotation search chose the offer (R29, R81, R82, R83, R91, R97, R138). That a take which finds
no offer changes nothing is the model's choice (assumption 18). -/
def Obligations.TakeWithoutChargeIssuesTheRecord : Prop :=
  (∀ s : State, Awake s → s.offer = none → exec .take s = .next { s with outputs := quietOutputs }) ∧
  ∀ (s : State) (o : Offer) (r : Record), Awake s → s.offer = some o →
    s.ports[o.port].queue.find? (fun x => x.serial == o.serial) = some r →
    o.grounds = .pass ∨ o.grounds = .background →
    let x := s.portStats[o.port]
    let beats := BitVec.ofNat 32 r.txn.beats
    exec .take s = .next (offering { s with
      offer := none
      ports := s.ports.set o.port { s.ports[o.port] with
        queue := s.ports[o.port].queue.map fun y => if y.serial = o.serial then
            { y with
              state := .issued
              note := if o.grounds = .pass then none else some .background
              issuedAt :=
                if s.mode = .engaged then some ⟨s.calendar.frame, s.calendar.slot⟩ else none }
          else y }
      memory := { s.memory with issue := s.memory.issue ++
        [⟨o.port, some r.serial, r.txn.kind, r.txn.beats, 0, s.memory.timeout, .waiting⟩] }
      portStats := s.portStats.set o.port (if o.grounds = .pass
        then { x with passBeats := x.passBeats + beats }
        else { x with backgroundBeats := x.backgroundBeats + beats })
      pointer := if o.rotation then o.port + 1 else s.pointer
      outputs := { quietOutputs with forwarded := some r.txn } })

/-- A take on in-budget grounds charges the record's whole chain: every account on it loses the beats, and counts
them; each that crosses from 1 or more to 0 or below is exhausted, with its event, in chain order (R27, R28, R81,
R91, R139). That no command comes between the events of one charge is the model's choice (assumption 19). -/
def Obligations.TakeInBudgetChargesTheChain : Prop :=
  ∀ (s : State) (o : Offer) (r : Record) (a : AccountIx), Awake s → s.offer = some o →
    s.ports[o.port].queue.find? (fun x => x.serial == o.serial) = some r → r.account = some a →
    (chain s.accounts a).Nodup → o.grounds = .owner ∨ o.grounds = .lent ∨ o.grounds = .opened →
    let beats := r.txn.beats
    let charged := chain s.accounts a
    let exhausted : AccountIx → Prop := fun x =>
      x ∈ charged ∧ 1 ≤ s.accounts[x].count ∧ s.accounts[x].count - (beats : Int) ≤ 0
    ∃ t, exec .take s = .next t
      ∧ (∀ x : AccountIx, t.accounts[x] =
          if x ∈ charged then { s.accounts[x] with count := s.accounts[x].count - (beats : Int) }
          else s.accounts[x])
      ∧ (∀ x : AccountIx,
          t.accountStats[x].charged = s.accountStats[x].charged
              + (if x ∈ charged then BitVec.ofNat 32 beats else 0)
          ∧ (exhausted x →
              t.accountStats[x].exhaustions = min (s.accountStats[x].exhaustions + 1) 65535)
          ∧ (¬ exhausted x → t.accountStats[x].exhaustions = s.accountStats[x].exhaustions))
      ∧ t.events = (charged.filter fun x =>
            decide (1 ≤ s.accounts[x].count ∧ s.accounts[x].count - (beats : Int) ≤ 0)).foldl
          (fun u x => storeIn u (positionOf s.calendar) { kind := .accountExhausted, account := some x })
          s.events
      ∧ t.ports = s.ports.set o.port { s.ports[o.port] with
          queue := s.ports[o.port].queue.map fun y => if y.serial = o.serial then
              { y with
                state := .issued
                note := match o.grounds with
                  | .lent => some .lent
                  | .opened => some .opened
                  | _ => none
                issuedAt :=
                  if s.mode = .engaged then some ⟨s.calendar.frame, s.calendar.slot⟩ else none }
            else y }
      ∧ t.memory = { s.memory with issue := s.memory.issue ++
          [⟨o.port, some r.serial, r.txn.kind, r.txn.beats, 0, s.memory.timeout, .waiting⟩] }
      ∧ t.portStats = s.portStats.set o.port (
          let x := s.portStats[o.port]
          if o.grounds = .lent then { x with lentBeats := x.lentBeats + BitVec.ofNat 32 beats }
          else { x with inBudgetBeats := x.inBudgetBeats + BitVec.ofNat 32 beats })
      ∧ t.pointer = (if o.rotation then o.port + 1 else s.pointer)
      ∧ t.offer = (if t.memory.issue.length < t.memory.depth then choose t else none)
      ∧ t.outputs = { quietOutputs with forwarded := some r.txn }
      ∧ t.pending = s.pending ∧ t.inReset = s.inReset ∧ t.mode = s.mode
      ∧ t.pendingDisengage = s.pendingDisengage ∧ t.calendar = s.calendar ∧ t.windows = s.windows
      ∧ t.fenceLimit = s.fenceLimit ∧ t.link = s.link ∧ t.serial = s.serial ∧ t.choices = s.choices

/-- A completion matched to an entry that waits settles its record: GOOD with OK, a READ's data and the spill
test, FAULT with DOWNSTREAM_FAULT; the entry leaves, the port answers, and the selector may offer
(R50, R100 to R103). That the completion's event precedes the PORT_QUIESCED of its answer is the model's deduction
(assumption 9), as is that data of any length is delivered as it comes (assumption 13). That no command comes between
the two events, and that the first carries the account and the window index of a record classified in ENGAGED and taken
in PASS or ENGAGING too, are the model's choice (assumptions 19 and 14). -/
def Obligations.CompletionSettlesTheOldestEntry : Prop :=
  ∀ (s : State) (e : Entry) (rest : List Entry) (n : Nat) (r : Record), Awake s →
    s.memory.issue = e :: rest → e.state = .waiting → e.record = some n →
    s.ports[e.port].queue.find? (fun x => x.serial == n) = some r →
    (∀ data : List Beat,
      let spilled := ∃ at_, r.issuedAt = some at_ ∧ at_ ≠ ⟨s.calendar.frame, s.calendar.slot⟩
      exec (.completion (.good data)) s = .next (offering (answered
        { s with
          memory := { s.memory with issue := rest }
          portStats := s.portStats.set e.port { s.portStats[e.port] with
            spills := (if r.issuedAt.any (fun at_ => at_ != ⟨s.calendar.frame, s.calendar.slot⟩)
              then s.portStats[e.port].spills + 1 else s.portStats[e.port].spills) }
          outputs := quietOutputs }
        e.port
        (s.ports[e.port].queue.map fun x => if x.serial = n then
            { x with state := .done .ok, readData := if x.txn.kind = .read then some data else none }
          else x)))
      ∧ (r.issuedAt.any (fun at_ => at_ != ⟨s.calendar.frame, s.calendar.slot⟩) = true ↔ spilled))
    ∧ exec (.completion .fault) s = .next (offering (answered
        (report
          { s with memory := { s.memory with issue := rest }, outputs := quietOutputs }
          { kind := .downstreamFault
            port := some e.port
            account := r.account
            address := some r.txn.address
            detail := r.window.map fun w => byteOf w.val })
        e.port
        (s.ports[e.port].queue.map fun x =>
          if x.serial = n then { x with state := .done .fault } else x)))

/-- A completion matched to an ABANDONED entry is late: the entry leaves with LATE_COMPLETION and no record
changes. One that finds the list empty is stray: STRAY_COMPLETION and nothing else (R105, R106). -/
def Obligations.LateAndStrayCompletionsAreDiscarded : Prop :=
  ∀ (s : State) (c : Completion), Awake s →
    let code : Byte := match c with
      | .good _ => 0x00
      | .fault => 0x01
    (∀ e rest, s.memory.issue = e :: rest → e.state = .abandoned →
      exec (.completion c) s = .next (offering (report
        { s with memory := { s.memory with issue := rest }, outputs := quietOutputs }
        { kind := .lateCompletion, port := some e.port, detail := some code })))
    ∧ (s.memory.issue = [] → exec (.completion c) s = .next (report
        { s with outputs := quietOutputs } { kind := .strayCompletion, detail := some code }))

/-- The oldest entry that has reached its limit is timed out: its record becomes DONE, TIMEOUT, the entry is
abandoned in its place, DOWNSTREAM_TIMEOUT is produced, and the port answers. With fault action CONTINUE, or in
HALTED, nothing more is done (R104, R107). That the timeout's event precedes the PORT_QUIESCED of its answer is the
model's deduction (assumption 9); that no command comes between the two, and that the event carries the account and the
window index of a record classified in ENGAGED and taken in PASS or ENGAGING too, are the model's choice
(assumptions 19 and 14). -/
def Obligations.TimeoutAbandonsTheEntry : Prop :=
  ∀ (s : State) (e : Entry) (before after : List Entry) (n : Nat) (r : Record), s.inReset = false →
    s.memory.issue = before ++ e :: after → (∀ x ∈ before, timeoutDue x = false) →
    e.state = .waiting → e.limit ≠ 0 → e.limit ≤ e.ticks → e.record = some n →
    s.ports[e.port].queue.find? (fun x => x.serial == n) = some r →
    s.memory.faultAction = .carryOn ∨ s.mode = .halted →
    exec .entryTimeout s = .next (offering (answered
      (report
        { s with
          memory := { s.memory with
            issue := before ++ { e with state := .abandoned, record := none } :: after }
          outputs := quietOutputs }
        { kind := .downstreamTimeout
          port := some e.port
          account := r.account
          address := some r.txn.address
          detail := r.window.map fun w => byteOf w.val })
      e.port
      (s.ports[e.port].queue.map fun x =>
        if x.serial = n then { x with state := .done .timeout } else x)))

/-- A timeout with fault action HALT stores DOWNSTREAM_TIMEOUT and then enters HALTED with every effect of a halt
(R107, R125). Its events are ordered as in assumptions 4 and 9. That no command comes between them, and that
DOWNSTREAM_TIMEOUT carries the account and the window index of a record classified in ENGAGED and taken in PASS or
ENGAGING too, are the model's choice (assumptions 19 and 14). -/
def Obligations.TimeoutWithFaultActionHaltHalts : Prop :=
  ∀ (s : State) (e : Entry) (before after : List Entry) (n : Nat) (r : Record), s.inReset = false →
    s.memory.issue = before ++ e :: after → (∀ x ∈ before, timeoutDue x = false) →
    e.state = .waiting → e.limit ≠ 0 → e.limit ≤ e.ticks → e.record = some n →
    s.ports[e.port].queue.find? (fun x => x.serial == n) = some r →
    s.memory.faultAction = .halt → s.mode ≠ .halted →
    ∃ t, exec .entryTimeout s = .next t ∧ t.link = s.link
      ∧ t.outputs.ldo = [] ∧ t.outputs.presented = none
      ∧ HaltedFrom
        (report
          { s with
            ports := s.ports.set e.port { s.ports[e.port] with
              queue := s.ports[e.port].queue.map fun x =>
                if x.serial = n then { x with state := .done .timeout } else x }
            memory := { s.memory with
              issue := before ++ { e with state := .abandoned, record := none } :: after }
            outputs := quietOutputs }
          { kind := .downstreamTimeout
            port := some e.port
            account := r.account
            address := some r.txn.address
            detail := r.window.map fun w => byteOf w.val })
        t

/-! ### The selector -/

/-- The order of choice: one rotation search in PASS and ENGAGING; nothing in HALTED, while closing or in a QUIET
slot; the owner, then borrowers, then background in a LEND slot; the owner alone in a HOLD slot; in-budget, then
background in an OPEN slot (R83 to R90). A record is in-budget when every account from its own up the parent links
has a count of 1 or more, and background when it is not and its own account's exhaust mode is BACKGROUND, whatever the
modes of the accounts above (R23, R24, R25, R87). -/
def Obligations.SelectorFollowsTheOrderOfChoice : Prop :=
  ∀ s : State,
    let rotation : List Port := [s.pointer, s.pointer + 1, s.pointer + 2, s.pointer + 3]
    let slot := s.calendar.banks[s.calendar.active].entries[s.calendar.slot]
    let budget : Record → Prop := InBudget s.accounts
    let spare : Record → Prop := InBackground s.accounts
    (s.mode = .pass ∨ s.mode = .engaging →
      (∀ q r, FoundFirst s rotation (fun _ => True) q r → choose s = some ⟨q, r.serial, .pass, true⟩)
      ∧ (FoundNone s rotation (fun _ => True) → choose s = none))
    ∧ (s.mode = .halted ∨ (s.mode = .engaged ∧ (s.calendar.ticks ≤ slot.cutoff ∨ slot.owner = .quiet)) →
        choose s = none)
    ∧ (s.mode = .engaged → slot.cutoff < s.calendar.ticks →
        (slot.owner = .everyPort →
          (∀ q r, FoundFirst s rotation budget q r → choose s = some ⟨q, r.serial, .opened, true⟩)
          ∧ (FoundNone s rotation budget →
              (∀ q r, FoundFirst s rotation spare q r →
                choose s = some ⟨q, r.serial, .background, true⟩)
              ∧ (FoundNone s rotation spare → choose s = none)))
        ∧ (∀ p, slot.owner = .port p →
            (∀ r, FoundFirst s [p] budget p r → choose s = some ⟨p, r.serial, .owner, false⟩)
            ∧ (FoundNone s [p] budget →
                (slot.idle = .hold →
                  (∀ r, FoundFirst s [p] spare p r → choose s = some ⟨p, r.serial, .background, false⟩)
                  ∧ (FoundNone s [p] spare → choose s = none))
                ∧ (slot.idle = .lend →
                    (∀ q r, FoundFirst s (rotation.filter (· ≠ p)) budget q r →
                      choose s = some ⟨q, r.serial, .lent, true⟩)
                    ∧ (FoundNone s rotation budget →
                        (∀ q r, FoundFirst s rotation spare q r →
                          choose s = some ⟨q, r.serial, .background, true⟩)
                        ∧ (FoundNone s rotation spare → choose s = none))))))

/-! ### The formats -/

/-- Every well-formed command of the service link is read back from the bits that spell it, and bits after the 24th
byte do not change it (R143, R145, R155, R156, Table 10-3). That a SET_PARAM packet with an unknown identifier is read
as the row UNKNOWN_COMMAND is the model's reading (assumption 10). -/
def Obligations.DecodeReadsEveryEncodedCommand : Prop :=
  ∀ (i : Instr) (bits extra : List Bool), i.wellFormed = true → encodeTransfer i = some bits →
    decodeTransfer bits = i ∧ (bits.length = 192 → decodeTransfer (bits ++ extra) = i)

/-! ### Laws that every step keeps -/

/-- No queue outgrows its capacity, and no window's base exceeds its limit (R45, R59, R60, R64, R96, R111). -/
def Obligations.CapacitiesAreKept : Prop :=
  ∀ s t : State, WithinCapacity s → WindowsSound s → step s = .next t → WithinCapacity t ∧ WindowsSound t

/-- The event queue holds at most 32 records numbered without gaps, and ALERT# is as R137 judges it
(R129, R130, R131, R137). -/
def Obligations.EventQueueStaysSound : Prop :=
  ∀ s t : State, EventsSound s → step s = .next t → EventsSound t

/-- The banks stay valid with true signatures; while ENGAGED the slot index stays below the active bank's S and the
ticks remaining lie between 1 and the slot's length; and the pending flags are set only while ENGAGED
(R3, R4, R6, R10, R115). -/
def Obligations.CalendarStaysSound : Prop :=
  ∀ s t : State, CalendarSound s → step s = .next t → CalendarSound t

/-- The link holds a response exactly when no transfer is in progress (R147, R154). LDO is high impedance while LSEL# is
high, and from the fall that begins a transfer it shows the first bit of the response (R143, R159, Table 10-10); the
bits after it are listed with the row that ends the transfer, which is the model's choice (assumption 11). -/
def Obligations.LinkAlwaysHoldsOneResponse : Prop :=
  ∀ s t : State, LinkSound s → step s = .next t → LinkSound t

/-- What happens at once has happened after every step: no answerable record stands at a front, no QUIESCING port
is empty, and no offer that could be made is missing (R50, R55, R79). -/
def Obligations.NothingThatHappensAtOnceIsLeft : Prop :=
  ∀ s t : State, Prompt s → step s = .next t → Prompt t

/-- Parent links close no cycle, counts stay between −15 and 65535, every entry that waits serves its own ISSUED
record, and the offer is its port's candidate on grounds that are true now (R22, R30, R36, R92, R96). -/
def Obligations.AccountsEntriesAndOfferStayCoherent : Prop :=
  ∀ s t : State, Coherent s → step s = .next t → Coherent t

/-- While ENGAGED every WAITING or ISSUED record carries an account, and an offer stands only in a slot that is
neither closing nor QUIET (R70, R86). -/
def Obligations.EngagedTrafficIsClassifiedAndTimed : Prop :=
  ∀ s t : State, Coherent s → EngagedRecordsClassified s → OfferInOpenSlot s → step s = .next t →
    EngagedRecordsClassified t ∧ OfferInOpenSlot t

/-- Each port answers the transactions it has taken in the order it took them, each exactly once. Whatever the
command, RESET_ASSERT apart, the queue with the newly taken records at its tail splits into the records that leave and
the records that stay; each that leaves is settled, and its answer, in that order, is what the master is sent. What is
taken is the arrival that the port held off or the one that the command presents (R44, R49, R50, R51).
That a READ has the completion's data whatever its length is the model's deduction (assumption 13). -/
def Obligations.EveryTakenTransactionIsAnsweredOnceInOrder : Prop :=
  ∀ (c : Instr) (s t : State) (p : Port), c ≠ .resetAssert → Coherent s → exec c s = .next t →
    ∃ taken gone kept final : List Record,
      s.ports[p].queue ++ taken = gone ++ kept
      ∧ (∀ r ∈ taken, s.serial ≤ r.serial
          ∧ ∃ x, AsTaken x r ∧ (s.ports[p].arrival = some x ∨ c = .arrival p x))
      ∧ kept.map (fun r => (r.serial, r.txn)) = t.ports[p].queue.map (fun r => (r.serial, r.txn))
      ∧ List.Forall₂ (SettledIn c) gone final
      ∧ t.outputs.answers[p] = final.map answerOf

end Statements
end

