-- ==== Sys2Proof/Laws/State.lean ====
section
/-! SUPPORT. What each named update of State does to each field: one lemma per field and update, so that
no later proof unfolds a record update. -/

namespace Sys2Proof.Machine

/-! ### `setPort` -/

@[simp] theorem setPort_pending (s : State) (p : Port) (u : PortUnit) : (setPort s p u).pending = s.pending := rfl
@[simp] theorem setPort_inReset (s : State) (p : Port) (u : PortUnit) : (setPort s p u).inReset = s.inReset := rfl
@[simp] theorem setPort_mode (s : State) (p : Port) (u : PortUnit) : (setPort s p u).mode = s.mode := rfl
@[simp] theorem setPort_pendingDisengage (s : State) (p : Port) (u : PortUnit) : (setPort s p u).pendingDisengage = s.pendingDisengage := rfl
@[simp] theorem setPort_calendar (s : State) (p : Port) (u : PortUnit) : (setPort s p u).calendar = s.calendar := rfl
@[simp] theorem setPort_accounts (s : State) (p : Port) (u : PortUnit) : (setPort s p u).accounts = s.accounts := rfl
@[simp] theorem setPort_accountStats (s : State) (p : Port) (u : PortUnit) : (setPort s p u).accountStats = s.accountStats := rfl
@[simp] theorem setPort_windows (s : State) (p : Port) (u : PortUnit) : (setPort s p u).windows = s.windows := rfl
@[simp] theorem setPort_ports (s : State) (p : Port) (u : PortUnit) : (setPort s p u).ports = s.ports.set p u := rfl
@[simp] theorem setPort_portStats (s : State) (p : Port) (u : PortUnit) : (setPort s p u).portStats = s.portStats := rfl
@[simp] theorem setPort_fenceLimit (s : State) (p : Port) (u : PortUnit) : (setPort s p u).fenceLimit = s.fenceLimit := rfl
@[simp] theorem setPort_pointer (s : State) (p : Port) (u : PortUnit) : (setPort s p u).pointer = s.pointer := rfl
@[simp] theorem setPort_offer (s : State) (p : Port) (u : PortUnit) : (setPort s p u).offer = s.offer := rfl
@[simp] theorem setPort_memory (s : State) (p : Port) (u : PortUnit) : (setPort s p u).memory = s.memory := rfl
@[simp] theorem setPort_events (s : State) (p : Port) (u : PortUnit) : (setPort s p u).events = s.events := rfl
@[simp] theorem setPort_link (s : State) (p : Port) (u : PortUnit) : (setPort s p u).link = s.link := rfl
@[simp] theorem setPort_outputs (s : State) (p : Port) (u : PortUnit) : (setPort s p u).outputs = s.outputs := rfl
@[simp] theorem setPort_serial (s : State) (p : Port) (u : PortUnit) : (setPort s p u).serial = s.serial := rfl
@[simp] theorem setPort_choices (s : State) (p : Port) (u : PortUnit) : (setPort s p u).choices = s.choices := rfl

/-! ### `setQueue` -/

@[simp] theorem setQueue_pending (s : State) (p : Port) (q : List Record) : (setQueue s p q).pending = s.pending := rfl
@[simp] theorem setQueue_inReset (s : State) (p : Port) (q : List Record) : (setQueue s p q).inReset = s.inReset := rfl
@[simp] theorem setQueue_mode (s : State) (p : Port) (q : List Record) : (setQueue s p q).mode = s.mode := rfl
@[simp] theorem setQueue_pendingDisengage (s : State) (p : Port) (q : List Record) : (setQueue s p q).pendingDisengage = s.pendingDisengage := rfl
@[simp] theorem setQueue_calendar (s : State) (p : Port) (q : List Record) : (setQueue s p q).calendar = s.calendar := rfl
@[simp] theorem setQueue_accounts (s : State) (p : Port) (q : List Record) : (setQueue s p q).accounts = s.accounts := rfl
@[simp] theorem setQueue_accountStats (s : State) (p : Port) (q : List Record) : (setQueue s p q).accountStats = s.accountStats := rfl
@[simp] theorem setQueue_windows (s : State) (p : Port) (q : List Record) : (setQueue s p q).windows = s.windows := rfl
@[simp] theorem setQueue_ports (s : State) (p : Port) (q : List Record) : (setQueue s p q).ports = s.ports.set p { s.ports[p] with queue := q } := rfl
@[simp] theorem setQueue_portStats (s : State) (p : Port) (q : List Record) : (setQueue s p q).portStats = s.portStats := rfl
@[simp] theorem setQueue_fenceLimit (s : State) (p : Port) (q : List Record) : (setQueue s p q).fenceLimit = s.fenceLimit := rfl
@[simp] theorem setQueue_pointer (s : State) (p : Port) (q : List Record) : (setQueue s p q).pointer = s.pointer := rfl
@[simp] theorem setQueue_offer (s : State) (p : Port) (q : List Record) : (setQueue s p q).offer = s.offer := rfl
@[simp] theorem setQueue_memory (s : State) (p : Port) (q : List Record) : (setQueue s p q).memory = s.memory := rfl
@[simp] theorem setQueue_events (s : State) (p : Port) (q : List Record) : (setQueue s p q).events = s.events := rfl
@[simp] theorem setQueue_link (s : State) (p : Port) (q : List Record) : (setQueue s p q).link = s.link := rfl
@[simp] theorem setQueue_outputs (s : State) (p : Port) (q : List Record) : (setQueue s p q).outputs = s.outputs := rfl
@[simp] theorem setQueue_serial (s : State) (p : Port) (q : List Record) : (setQueue s p q).serial = s.serial := rfl
@[simp] theorem setQueue_choices (s : State) (p : Port) (q : List Record) : (setQueue s p q).choices = s.choices := rfl

/-! ### `setPortState` -/

@[simp] theorem setPortState_pending (s : State) (p : Port) (st : PortState) : (setPortState s p st).pending = s.pending := rfl
@[simp] theorem setPortState_inReset (s : State) (p : Port) (st : PortState) : (setPortState s p st).inReset = s.inReset := rfl
@[simp] theorem setPortState_mode (s : State) (p : Port) (st : PortState) : (setPortState s p st).mode = s.mode := rfl
@[simp] theorem setPortState_pendingDisengage (s : State) (p : Port) (st : PortState) : (setPortState s p st).pendingDisengage = s.pendingDisengage := rfl
@[simp] theorem setPortState_calendar (s : State) (p : Port) (st : PortState) : (setPortState s p st).calendar = s.calendar := rfl
@[simp] theorem setPortState_accounts (s : State) (p : Port) (st : PortState) : (setPortState s p st).accounts = s.accounts := rfl
@[simp] theorem setPortState_accountStats (s : State) (p : Port) (st : PortState) : (setPortState s p st).accountStats = s.accountStats := rfl
@[simp] theorem setPortState_windows (s : State) (p : Port) (st : PortState) : (setPortState s p st).windows = s.windows := rfl
@[simp] theorem setPortState_ports (s : State) (p : Port) (st : PortState) : (setPortState s p st).ports = s.ports.set p { s.ports[p] with state := st } := rfl
@[simp] theorem setPortState_portStats (s : State) (p : Port) (st : PortState) : (setPortState s p st).portStats = s.portStats := rfl
@[simp] theorem setPortState_fenceLimit (s : State) (p : Port) (st : PortState) : (setPortState s p st).fenceLimit = s.fenceLimit := rfl
@[simp] theorem setPortState_pointer (s : State) (p : Port) (st : PortState) : (setPortState s p st).pointer = s.pointer := rfl
@[simp] theorem setPortState_offer (s : State) (p : Port) (st : PortState) : (setPortState s p st).offer = s.offer := rfl
@[simp] theorem setPortState_memory (s : State) (p : Port) (st : PortState) : (setPortState s p st).memory = s.memory := rfl
@[simp] theorem setPortState_events (s : State) (p : Port) (st : PortState) : (setPortState s p st).events = s.events := rfl
@[simp] theorem setPortState_link (s : State) (p : Port) (st : PortState) : (setPortState s p st).link = s.link := rfl
@[simp] theorem setPortState_outputs (s : State) (p : Port) (st : PortState) : (setPortState s p st).outputs = s.outputs := rfl
@[simp] theorem setPortState_serial (s : State) (p : Port) (st : PortState) : (setPortState s p st).serial = s.serial := rfl
@[simp] theorem setPortState_choices (s : State) (p : Port) (st : PortState) : (setPortState s p st).choices = s.choices := rfl

/-! ### `setArrival` -/

@[simp] theorem setArrival_pending (s : State) (p : Port) (t : Option Txn) : (setArrival s p t).pending = s.pending := rfl
@[simp] theorem setArrival_inReset (s : State) (p : Port) (t : Option Txn) : (setArrival s p t).inReset = s.inReset := rfl
@[simp] theorem setArrival_mode (s : State) (p : Port) (t : Option Txn) : (setArrival s p t).mode = s.mode := rfl
@[simp] theorem setArrival_pendingDisengage (s : State) (p : Port) (t : Option Txn) : (setArrival s p t).pendingDisengage = s.pendingDisengage := rfl
@[simp] theorem setArrival_calendar (s : State) (p : Port) (t : Option Txn) : (setArrival s p t).calendar = s.calendar := rfl
@[simp] theorem setArrival_accounts (s : State) (p : Port) (t : Option Txn) : (setArrival s p t).accounts = s.accounts := rfl
@[simp] theorem setArrival_accountStats (s : State) (p : Port) (t : Option Txn) : (setArrival s p t).accountStats = s.accountStats := rfl
@[simp] theorem setArrival_windows (s : State) (p : Port) (t : Option Txn) : (setArrival s p t).windows = s.windows := rfl
@[simp] theorem setArrival_ports (s : State) (p : Port) (t : Option Txn) : (setArrival s p t).ports = s.ports.set p { s.ports[p] with arrival := t } := rfl
@[simp] theorem setArrival_portStats (s : State) (p : Port) (t : Option Txn) : (setArrival s p t).portStats = s.portStats := rfl
@[simp] theorem setArrival_fenceLimit (s : State) (p : Port) (t : Option Txn) : (setArrival s p t).fenceLimit = s.fenceLimit := rfl
@[simp] theorem setArrival_pointer (s : State) (p : Port) (t : Option Txn) : (setArrival s p t).pointer = s.pointer := rfl
@[simp] theorem setArrival_offer (s : State) (p : Port) (t : Option Txn) : (setArrival s p t).offer = s.offer := rfl
@[simp] theorem setArrival_memory (s : State) (p : Port) (t : Option Txn) : (setArrival s p t).memory = s.memory := rfl
@[simp] theorem setArrival_events (s : State) (p : Port) (t : Option Txn) : (setArrival s p t).events = s.events := rfl
@[simp] theorem setArrival_link (s : State) (p : Port) (t : Option Txn) : (setArrival s p t).link = s.link := rfl
@[simp] theorem setArrival_outputs (s : State) (p : Port) (t : Option Txn) : (setArrival s p t).outputs = s.outputs := rfl
@[simp] theorem setArrival_serial (s : State) (p : Port) (t : Option Txn) : (setArrival s p t).serial = s.serial := rfl
@[simp] theorem setArrival_choices (s : State) (p : Port) (t : Option Txn) : (setArrival s p t).choices = s.choices := rfl

/-! ### `setAccount` -/

@[simp] theorem setAccount_pending (s : State) (a : AccountIx) (x : Account) : (setAccount s a x).pending = s.pending := rfl
@[simp] theorem setAccount_inReset (s : State) (a : AccountIx) (x : Account) : (setAccount s a x).inReset = s.inReset := rfl
@[simp] theorem setAccount_mode (s : State) (a : AccountIx) (x : Account) : (setAccount s a x).mode = s.mode := rfl
@[simp] theorem setAccount_pendingDisengage (s : State) (a : AccountIx) (x : Account) : (setAccount s a x).pendingDisengage = s.pendingDisengage := rfl
@[simp] theorem setAccount_calendar (s : State) (a : AccountIx) (x : Account) : (setAccount s a x).calendar = s.calendar := rfl
@[simp] theorem setAccount_accounts (s : State) (a : AccountIx) (x : Account) : (setAccount s a x).accounts = s.accounts.set a x := rfl
@[simp] theorem setAccount_accountStats (s : State) (a : AccountIx) (x : Account) : (setAccount s a x).accountStats = s.accountStats := rfl
@[simp] theorem setAccount_windows (s : State) (a : AccountIx) (x : Account) : (setAccount s a x).windows = s.windows := rfl
@[simp] theorem setAccount_ports (s : State) (a : AccountIx) (x : Account) : (setAccount s a x).ports = s.ports := rfl
@[simp] theorem setAccount_portStats (s : State) (a : AccountIx) (x : Account) : (setAccount s a x).portStats = s.portStats := rfl
@[simp] theorem setAccount_fenceLimit (s : State) (a : AccountIx) (x : Account) : (setAccount s a x).fenceLimit = s.fenceLimit := rfl
@[simp] theorem setAccount_pointer (s : State) (a : AccountIx) (x : Account) : (setAccount s a x).pointer = s.pointer := rfl
@[simp] theorem setAccount_offer (s : State) (a : AccountIx) (x : Account) : (setAccount s a x).offer = s.offer := rfl
@[simp] theorem setAccount_memory (s : State) (a : AccountIx) (x : Account) : (setAccount s a x).memory = s.memory := rfl
@[simp] theorem setAccount_events (s : State) (a : AccountIx) (x : Account) : (setAccount s a x).events = s.events := rfl
@[simp] theorem setAccount_link (s : State) (a : AccountIx) (x : Account) : (setAccount s a x).link = s.link := rfl
@[simp] theorem setAccount_outputs (s : State) (a : AccountIx) (x : Account) : (setAccount s a x).outputs = s.outputs := rfl
@[simp] theorem setAccount_serial (s : State) (a : AccountIx) (x : Account) : (setAccount s a x).serial = s.serial := rfl
@[simp] theorem setAccount_choices (s : State) (a : AccountIx) (x : Account) : (setAccount s a x).choices = s.choices := rfl

/-! ### `countPort` -/

@[simp] theorem countPort_pending (s : State) (p : Port) (f : PortStats → PortStats) : (countPort s p f).pending = s.pending := rfl
@[simp] theorem countPort_inReset (s : State) (p : Port) (f : PortStats → PortStats) : (countPort s p f).inReset = s.inReset := rfl
@[simp] theorem countPort_mode (s : State) (p : Port) (f : PortStats → PortStats) : (countPort s p f).mode = s.mode := rfl
@[simp] theorem countPort_pendingDisengage (s : State) (p : Port) (f : PortStats → PortStats) : (countPort s p f).pendingDisengage = s.pendingDisengage := rfl
@[simp] theorem countPort_calendar (s : State) (p : Port) (f : PortStats → PortStats) : (countPort s p f).calendar = s.calendar := rfl
@[simp] theorem countPort_accounts (s : State) (p : Port) (f : PortStats → PortStats) : (countPort s p f).accounts = s.accounts := rfl
@[simp] theorem countPort_accountStats (s : State) (p : Port) (f : PortStats → PortStats) : (countPort s p f).accountStats = s.accountStats := rfl
@[simp] theorem countPort_windows (s : State) (p : Port) (f : PortStats → PortStats) : (countPort s p f).windows = s.windows := rfl
@[simp] theorem countPort_ports (s : State) (p : Port) (f : PortStats → PortStats) : (countPort s p f).ports = s.ports := rfl
@[simp] theorem countPort_portStats (s : State) (p : Port) (f : PortStats → PortStats) : (countPort s p f).portStats = s.portStats.set p (f s.portStats[p]) := rfl
@[simp] theorem countPort_fenceLimit (s : State) (p : Port) (f : PortStats → PortStats) : (countPort s p f).fenceLimit = s.fenceLimit := rfl
@[simp] theorem countPort_pointer (s : State) (p : Port) (f : PortStats → PortStats) : (countPort s p f).pointer = s.pointer := rfl
@[simp] theorem countPort_offer (s : State) (p : Port) (f : PortStats → PortStats) : (countPort s p f).offer = s.offer := rfl
@[simp] theorem countPort_memory (s : State) (p : Port) (f : PortStats → PortStats) : (countPort s p f).memory = s.memory := rfl
@[simp] theorem countPort_events (s : State) (p : Port) (f : PortStats → PortStats) : (countPort s p f).events = s.events := rfl
@[simp] theorem countPort_link (s : State) (p : Port) (f : PortStats → PortStats) : (countPort s p f).link = s.link := rfl
@[simp] theorem countPort_outputs (s : State) (p : Port) (f : PortStats → PortStats) : (countPort s p f).outputs = s.outputs := rfl
@[simp] theorem countPort_serial (s : State) (p : Port) (f : PortStats → PortStats) : (countPort s p f).serial = s.serial := rfl
@[simp] theorem countPort_choices (s : State) (p : Port) (f : PortStats → PortStats) : (countPort s p f).choices = s.choices := rfl

/-! ### `countAccount` -/

@[simp] theorem countAccount_pending (s : State) (a : AccountIx) (f : AccountStats → AccountStats) : (countAccount s a f).pending = s.pending := rfl
@[simp] theorem countAccount_inReset (s : State) (a : AccountIx) (f : AccountStats → AccountStats) : (countAccount s a f).inReset = s.inReset := rfl
@[simp] theorem countAccount_mode (s : State) (a : AccountIx) (f : AccountStats → AccountStats) : (countAccount s a f).mode = s.mode := rfl
@[simp] theorem countAccount_pendingDisengage (s : State) (a : AccountIx) (f : AccountStats → AccountStats) : (countAccount s a f).pendingDisengage = s.pendingDisengage := rfl
@[simp] theorem countAccount_calendar (s : State) (a : AccountIx) (f : AccountStats → AccountStats) : (countAccount s a f).calendar = s.calendar := rfl
@[simp] theorem countAccount_accounts (s : State) (a : AccountIx) (f : AccountStats → AccountStats) : (countAccount s a f).accounts = s.accounts := rfl
@[simp] theorem countAccount_accountStats (s : State) (a : AccountIx) (f : AccountStats → AccountStats) : (countAccount s a f).accountStats = s.accountStats.set a (f s.accountStats[a]) := rfl
@[simp] theorem countAccount_windows (s : State) (a : AccountIx) (f : AccountStats → AccountStats) : (countAccount s a f).windows = s.windows := rfl
@[simp] theorem countAccount_ports (s : State) (a : AccountIx) (f : AccountStats → AccountStats) : (countAccount s a f).ports = s.ports := rfl
@[simp] theorem countAccount_portStats (s : State) (a : AccountIx) (f : AccountStats → AccountStats) : (countAccount s a f).portStats = s.portStats := rfl
@[simp] theorem countAccount_fenceLimit (s : State) (a : AccountIx) (f : AccountStats → AccountStats) : (countAccount s a f).fenceLimit = s.fenceLimit := rfl
@[simp] theorem countAccount_pointer (s : State) (a : AccountIx) (f : AccountStats → AccountStats) : (countAccount s a f).pointer = s.pointer := rfl
@[simp] theorem countAccount_offer (s : State) (a : AccountIx) (f : AccountStats → AccountStats) : (countAccount s a f).offer = s.offer := rfl
@[simp] theorem countAccount_memory (s : State) (a : AccountIx) (f : AccountStats → AccountStats) : (countAccount s a f).memory = s.memory := rfl
@[simp] theorem countAccount_events (s : State) (a : AccountIx) (f : AccountStats → AccountStats) : (countAccount s a f).events = s.events := rfl
@[simp] theorem countAccount_link (s : State) (a : AccountIx) (f : AccountStats → AccountStats) : (countAccount s a f).link = s.link := rfl
@[simp] theorem countAccount_outputs (s : State) (a : AccountIx) (f : AccountStats → AccountStats) : (countAccount s a f).outputs = s.outputs := rfl
@[simp] theorem countAccount_serial (s : State) (a : AccountIx) (f : AccountStats → AccountStats) : (countAccount s a f).serial = s.serial := rfl
@[simp] theorem countAccount_choices (s : State) (a : AccountIx) (f : AccountStats → AccountStats) : (countAccount s a f).choices = s.choices := rfl

/-! ### `setOffer` -/

@[simp] theorem setOffer_pending (s : State) (o : Option Offer) : (setOffer s o).pending = s.pending := rfl
@[simp] theorem setOffer_inReset (s : State) (o : Option Offer) : (setOffer s o).inReset = s.inReset := rfl
@[simp] theorem setOffer_mode (s : State) (o : Option Offer) : (setOffer s o).mode = s.mode := rfl
@[simp] theorem setOffer_pendingDisengage (s : State) (o : Option Offer) : (setOffer s o).pendingDisengage = s.pendingDisengage := rfl
@[simp] theorem setOffer_calendar (s : State) (o : Option Offer) : (setOffer s o).calendar = s.calendar := rfl
@[simp] theorem setOffer_accounts (s : State) (o : Option Offer) : (setOffer s o).accounts = s.accounts := rfl
@[simp] theorem setOffer_accountStats (s : State) (o : Option Offer) : (setOffer s o).accountStats = s.accountStats := rfl
@[simp] theorem setOffer_windows (s : State) (o : Option Offer) : (setOffer s o).windows = s.windows := rfl
@[simp] theorem setOffer_ports (s : State) (o : Option Offer) : (setOffer s o).ports = s.ports := rfl
@[simp] theorem setOffer_portStats (s : State) (o : Option Offer) : (setOffer s o).portStats = s.portStats := rfl
@[simp] theorem setOffer_fenceLimit (s : State) (o : Option Offer) : (setOffer s o).fenceLimit = s.fenceLimit := rfl
@[simp] theorem setOffer_pointer (s : State) (o : Option Offer) : (setOffer s o).pointer = s.pointer := rfl
@[simp] theorem setOffer_offer (s : State) (o : Option Offer) : (setOffer s o).offer = o := rfl
@[simp] theorem setOffer_memory (s : State) (o : Option Offer) : (setOffer s o).memory = s.memory := rfl
@[simp] theorem setOffer_events (s : State) (o : Option Offer) : (setOffer s o).events = s.events := rfl
@[simp] theorem setOffer_link (s : State) (o : Option Offer) : (setOffer s o).link = s.link := rfl
@[simp] theorem setOffer_outputs (s : State) (o : Option Offer) : (setOffer s o).outputs = s.outputs := rfl
@[simp] theorem setOffer_serial (s : State) (o : Option Offer) : (setOffer s o).serial = s.serial := rfl
@[simp] theorem setOffer_choices (s : State) (o : Option Offer) : (setOffer s o).choices = s.choices := rfl

/-! ### `withdraw` -/

@[simp] theorem withdraw_pending (s : State) : (withdraw s).pending = s.pending := rfl
@[simp] theorem withdraw_inReset (s : State) : (withdraw s).inReset = s.inReset := rfl
@[simp] theorem withdraw_mode (s : State) : (withdraw s).mode = s.mode := rfl
@[simp] theorem withdraw_pendingDisengage (s : State) : (withdraw s).pendingDisengage = s.pendingDisengage := rfl
@[simp] theorem withdraw_calendar (s : State) : (withdraw s).calendar = s.calendar := rfl
@[simp] theorem withdraw_accounts (s : State) : (withdraw s).accounts = s.accounts := rfl
@[simp] theorem withdraw_accountStats (s : State) : (withdraw s).accountStats = s.accountStats := rfl
@[simp] theorem withdraw_windows (s : State) : (withdraw s).windows = s.windows := rfl
@[simp] theorem withdraw_ports (s : State) : (withdraw s).ports = s.ports := rfl
@[simp] theorem withdraw_portStats (s : State) : (withdraw s).portStats = s.portStats := rfl
@[simp] theorem withdraw_fenceLimit (s : State) : (withdraw s).fenceLimit = s.fenceLimit := rfl
@[simp] theorem withdraw_pointer (s : State) : (withdraw s).pointer = s.pointer := rfl
@[simp] theorem withdraw_offer (s : State) : (withdraw s).offer = none := rfl
@[simp] theorem withdraw_memory (s : State) : (withdraw s).memory = s.memory := rfl
@[simp] theorem withdraw_events (s : State) : (withdraw s).events = s.events := rfl
@[simp] theorem withdraw_link (s : State) : (withdraw s).link = s.link := rfl
@[simp] theorem withdraw_outputs (s : State) : (withdraw s).outputs = s.outputs := rfl
@[simp] theorem withdraw_serial (s : State) : (withdraw s).serial = s.serial := rfl
@[simp] theorem withdraw_choices (s : State) : (withdraw s).choices = s.choices := rfl

/-! ### `setIssue` -/

@[simp] theorem setIssue_pending (s : State) (l : List Entry) : (setIssue s l).pending = s.pending := rfl
@[simp] theorem setIssue_inReset (s : State) (l : List Entry) : (setIssue s l).inReset = s.inReset := rfl
@[simp] theorem setIssue_mode (s : State) (l : List Entry) : (setIssue s l).mode = s.mode := rfl
@[simp] theorem setIssue_pendingDisengage (s : State) (l : List Entry) : (setIssue s l).pendingDisengage = s.pendingDisengage := rfl
@[simp] theorem setIssue_calendar (s : State) (l : List Entry) : (setIssue s l).calendar = s.calendar := rfl
@[simp] theorem setIssue_accounts (s : State) (l : List Entry) : (setIssue s l).accounts = s.accounts := rfl
@[simp] theorem setIssue_accountStats (s : State) (l : List Entry) : (setIssue s l).accountStats = s.accountStats := rfl
@[simp] theorem setIssue_windows (s : State) (l : List Entry) : (setIssue s l).windows = s.windows := rfl
@[simp] theorem setIssue_ports (s : State) (l : List Entry) : (setIssue s l).ports = s.ports := rfl
@[simp] theorem setIssue_portStats (s : State) (l : List Entry) : (setIssue s l).portStats = s.portStats := rfl
@[simp] theorem setIssue_fenceLimit (s : State) (l : List Entry) : (setIssue s l).fenceLimit = s.fenceLimit := rfl
@[simp] theorem setIssue_pointer (s : State) (l : List Entry) : (setIssue s l).pointer = s.pointer := rfl
@[simp] theorem setIssue_offer (s : State) (l : List Entry) : (setIssue s l).offer = s.offer := rfl
@[simp] theorem setIssue_memory (s : State) (l : List Entry) : (setIssue s l).memory = { s.memory with issue := l } := rfl
@[simp] theorem setIssue_events (s : State) (l : List Entry) : (setIssue s l).events = s.events := rfl
@[simp] theorem setIssue_link (s : State) (l : List Entry) : (setIssue s l).link = s.link := rfl
@[simp] theorem setIssue_outputs (s : State) (l : List Entry) : (setIssue s l).outputs = s.outputs := rfl
@[simp] theorem setIssue_serial (s : State) (l : List Entry) : (setIssue s l).serial = s.serial := rfl
@[simp] theorem setIssue_choices (s : State) (l : List Entry) : (setIssue s l).choices = s.choices := rfl

/-! ### `setCalendar` -/

@[simp] theorem setCalendar_pending (s : State) (c : Calendar) : (setCalendar s c).pending = s.pending := rfl
@[simp] theorem setCalendar_inReset (s : State) (c : Calendar) : (setCalendar s c).inReset = s.inReset := rfl
@[simp] theorem setCalendar_mode (s : State) (c : Calendar) : (setCalendar s c).mode = s.mode := rfl
@[simp] theorem setCalendar_pendingDisengage (s : State) (c : Calendar) : (setCalendar s c).pendingDisengage = s.pendingDisengage := rfl
@[simp] theorem setCalendar_calendar (s : State) (c : Calendar) : (setCalendar s c).calendar = c := rfl
@[simp] theorem setCalendar_accounts (s : State) (c : Calendar) : (setCalendar s c).accounts = s.accounts := rfl
@[simp] theorem setCalendar_accountStats (s : State) (c : Calendar) : (setCalendar s c).accountStats = s.accountStats := rfl
@[simp] theorem setCalendar_windows (s : State) (c : Calendar) : (setCalendar s c).windows = s.windows := rfl
@[simp] theorem setCalendar_ports (s : State) (c : Calendar) : (setCalendar s c).ports = s.ports := rfl
@[simp] theorem setCalendar_portStats (s : State) (c : Calendar) : (setCalendar s c).portStats = s.portStats := rfl
@[simp] theorem setCalendar_fenceLimit (s : State) (c : Calendar) : (setCalendar s c).fenceLimit = s.fenceLimit := rfl
@[simp] theorem setCalendar_pointer (s : State) (c : Calendar) : (setCalendar s c).pointer = s.pointer := rfl
@[simp] theorem setCalendar_offer (s : State) (c : Calendar) : (setCalendar s c).offer = s.offer := rfl
@[simp] theorem setCalendar_memory (s : State) (c : Calendar) : (setCalendar s c).memory = s.memory := rfl
@[simp] theorem setCalendar_events (s : State) (c : Calendar) : (setCalendar s c).events = s.events := rfl
@[simp] theorem setCalendar_link (s : State) (c : Calendar) : (setCalendar s c).link = s.link := rfl
@[simp] theorem setCalendar_outputs (s : State) (c : Calendar) : (setCalendar s c).outputs = s.outputs := rfl
@[simp] theorem setCalendar_serial (s : State) (c : Calendar) : (setCalendar s c).serial = s.serial := rfl
@[simp] theorem setCalendar_choices (s : State) (c : Calendar) : (setCalendar s c).choices = s.choices := rfl

/-! ### `setEvents` -/

@[simp] theorem setEvents_pending (s : State) (e : EventUnit) : (setEvents s e).pending = s.pending := rfl
@[simp] theorem setEvents_inReset (s : State) (e : EventUnit) : (setEvents s e).inReset = s.inReset := rfl
@[simp] theorem setEvents_mode (s : State) (e : EventUnit) : (setEvents s e).mode = s.mode := rfl
@[simp] theorem setEvents_pendingDisengage (s : State) (e : EventUnit) : (setEvents s e).pendingDisengage = s.pendingDisengage := rfl
@[simp] theorem setEvents_calendar (s : State) (e : EventUnit) : (setEvents s e).calendar = s.calendar := rfl
@[simp] theorem setEvents_accounts (s : State) (e : EventUnit) : (setEvents s e).accounts = s.accounts := rfl
@[simp] theorem setEvents_accountStats (s : State) (e : EventUnit) : (setEvents s e).accountStats = s.accountStats := rfl
@[simp] theorem setEvents_windows (s : State) (e : EventUnit) : (setEvents s e).windows = s.windows := rfl
@[simp] theorem setEvents_ports (s : State) (e : EventUnit) : (setEvents s e).ports = s.ports := rfl
@[simp] theorem setEvents_portStats (s : State) (e : EventUnit) : (setEvents s e).portStats = s.portStats := rfl
@[simp] theorem setEvents_fenceLimit (s : State) (e : EventUnit) : (setEvents s e).fenceLimit = s.fenceLimit := rfl
@[simp] theorem setEvents_pointer (s : State) (e : EventUnit) : (setEvents s e).pointer = s.pointer := rfl
@[simp] theorem setEvents_offer (s : State) (e : EventUnit) : (setEvents s e).offer = s.offer := rfl
@[simp] theorem setEvents_memory (s : State) (e : EventUnit) : (setEvents s e).memory = s.memory := rfl
@[simp] theorem setEvents_events (s : State) (e : EventUnit) : (setEvents s e).events = e := rfl
@[simp] theorem setEvents_link (s : State) (e : EventUnit) : (setEvents s e).link = s.link := rfl
@[simp] theorem setEvents_outputs (s : State) (e : EventUnit) : (setEvents s e).outputs = s.outputs := rfl
@[simp] theorem setEvents_serial (s : State) (e : EventUnit) : (setEvents s e).serial = s.serial := rfl
@[simp] theorem setEvents_choices (s : State) (e : EventUnit) : (setEvents s e).choices = s.choices := rfl

/-! ### `setLink` -/

@[simp] theorem setLink_pending (s : State) (l : Link) : (setLink s l).pending = s.pending := rfl
@[simp] theorem setLink_inReset (s : State) (l : Link) : (setLink s l).inReset = s.inReset := rfl
@[simp] theorem setLink_mode (s : State) (l : Link) : (setLink s l).mode = s.mode := rfl
@[simp] theorem setLink_pendingDisengage (s : State) (l : Link) : (setLink s l).pendingDisengage = s.pendingDisengage := rfl
@[simp] theorem setLink_calendar (s : State) (l : Link) : (setLink s l).calendar = s.calendar := rfl
@[simp] theorem setLink_accounts (s : State) (l : Link) : (setLink s l).accounts = s.accounts := rfl
@[simp] theorem setLink_accountStats (s : State) (l : Link) : (setLink s l).accountStats = s.accountStats := rfl
@[simp] theorem setLink_windows (s : State) (l : Link) : (setLink s l).windows = s.windows := rfl
@[simp] theorem setLink_ports (s : State) (l : Link) : (setLink s l).ports = s.ports := rfl
@[simp] theorem setLink_portStats (s : State) (l : Link) : (setLink s l).portStats = s.portStats := rfl
@[simp] theorem setLink_fenceLimit (s : State) (l : Link) : (setLink s l).fenceLimit = s.fenceLimit := rfl
@[simp] theorem setLink_pointer (s : State) (l : Link) : (setLink s l).pointer = s.pointer := rfl
@[simp] theorem setLink_offer (s : State) (l : Link) : (setLink s l).offer = s.offer := rfl
@[simp] theorem setLink_memory (s : State) (l : Link) : (setLink s l).memory = s.memory := rfl
@[simp] theorem setLink_events (s : State) (l : Link) : (setLink s l).events = s.events := rfl
@[simp] theorem setLink_link (s : State) (l : Link) : (setLink s l).link = l := rfl
@[simp] theorem setLink_outputs (s : State) (l : Link) : (setLink s l).outputs = s.outputs := rfl
@[simp] theorem setLink_serial (s : State) (l : Link) : (setLink s l).serial = s.serial := rfl
@[simp] theorem setLink_choices (s : State) (l : Link) : (setLink s l).choices = s.choices := rfl

/-! ### `setOutputs` -/

@[simp] theorem setOutputs_pending (s : State) (o : Outputs) : (setOutputs s o).pending = s.pending := rfl
@[simp] theorem setOutputs_inReset (s : State) (o : Outputs) : (setOutputs s o).inReset = s.inReset := rfl
@[simp] theorem setOutputs_mode (s : State) (o : Outputs) : (setOutputs s o).mode = s.mode := rfl
@[simp] theorem setOutputs_pendingDisengage (s : State) (o : Outputs) : (setOutputs s o).pendingDisengage = s.pendingDisengage := rfl
@[simp] theorem setOutputs_calendar (s : State) (o : Outputs) : (setOutputs s o).calendar = s.calendar := rfl
@[simp] theorem setOutputs_accounts (s : State) (o : Outputs) : (setOutputs s o).accounts = s.accounts := rfl
@[simp] theorem setOutputs_accountStats (s : State) (o : Outputs) : (setOutputs s o).accountStats = s.accountStats := rfl
@[simp] theorem setOutputs_windows (s : State) (o : Outputs) : (setOutputs s o).windows = s.windows := rfl
@[simp] theorem setOutputs_ports (s : State) (o : Outputs) : (setOutputs s o).ports = s.ports := rfl
@[simp] theorem setOutputs_portStats (s : State) (o : Outputs) : (setOutputs s o).portStats = s.portStats := rfl
@[simp] theorem setOutputs_fenceLimit (s : State) (o : Outputs) : (setOutputs s o).fenceLimit = s.fenceLimit := rfl
@[simp] theorem setOutputs_pointer (s : State) (o : Outputs) : (setOutputs s o).pointer = s.pointer := rfl
@[simp] theorem setOutputs_offer (s : State) (o : Outputs) : (setOutputs s o).offer = s.offer := rfl
@[simp] theorem setOutputs_memory (s : State) (o : Outputs) : (setOutputs s o).memory = s.memory := rfl
@[simp] theorem setOutputs_events (s : State) (o : Outputs) : (setOutputs s o).events = s.events := rfl
@[simp] theorem setOutputs_link (s : State) (o : Outputs) : (setOutputs s o).link = s.link := rfl
@[simp] theorem setOutputs_outputs (s : State) (o : Outputs) : (setOutputs s o).outputs = o := rfl
@[simp] theorem setOutputs_serial (s : State) (o : Outputs) : (setOutputs s o).serial = s.serial := rfl
@[simp] theorem setOutputs_choices (s : State) (o : Outputs) : (setOutputs s o).choices = s.choices := rfl

/-! ### `begin` -/

@[simp] theorem begin_pending (s : State) : (begin s).pending = s.pending := rfl
@[simp] theorem begin_inReset (s : State) : (begin s).inReset = s.inReset := rfl
@[simp] theorem begin_mode (s : State) : (begin s).mode = s.mode := rfl
@[simp] theorem begin_pendingDisengage (s : State) : (begin s).pendingDisengage = s.pendingDisengage := rfl
@[simp] theorem begin_calendar (s : State) : (begin s).calendar = s.calendar := rfl
@[simp] theorem begin_accounts (s : State) : (begin s).accounts = s.accounts := rfl
@[simp] theorem begin_accountStats (s : State) : (begin s).accountStats = s.accountStats := rfl
@[simp] theorem begin_windows (s : State) : (begin s).windows = s.windows := rfl
@[simp] theorem begin_ports (s : State) : (begin s).ports = s.ports := rfl
@[simp] theorem begin_portStats (s : State) : (begin s).portStats = s.portStats := rfl
@[simp] theorem begin_fenceLimit (s : State) : (begin s).fenceLimit = s.fenceLimit := rfl
@[simp] theorem begin_pointer (s : State) : (begin s).pointer = s.pointer := rfl
@[simp] theorem begin_offer (s : State) : (begin s).offer = s.offer := rfl
@[simp] theorem begin_memory (s : State) : (begin s).memory = s.memory := rfl
@[simp] theorem begin_events (s : State) : (begin s).events = s.events := rfl
@[simp] theorem begin_link (s : State) : (begin s).link = s.link := rfl
@[simp] theorem begin_outputs (s : State) : (begin s).outputs = .silent := rfl
@[simp] theorem begin_serial (s : State) : (begin s).serial = s.serial := rfl
@[simp] theorem begin_choices (s : State) : (begin s).choices = s.choices := rfl

/-! ### `report` -/

@[simp] theorem report_pending (s : State) (r : Report) : (report s r).pending = s.pending := rfl
@[simp] theorem report_inReset (s : State) (r : Report) : (report s r).inReset = s.inReset := rfl
@[simp] theorem report_mode (s : State) (r : Report) : (report s r).mode = s.mode := rfl
@[simp] theorem report_pendingDisengage (s : State) (r : Report) : (report s r).pendingDisengage = s.pendingDisengage := rfl
@[simp] theorem report_calendar (s : State) (r : Report) : (report s r).calendar = s.calendar := rfl
@[simp] theorem report_accounts (s : State) (r : Report) : (report s r).accounts = s.accounts := rfl
@[simp] theorem report_accountStats (s : State) (r : Report) : (report s r).accountStats = s.accountStats := rfl
@[simp] theorem report_windows (s : State) (r : Report) : (report s r).windows = s.windows := rfl
@[simp] theorem report_ports (s : State) (r : Report) : (report s r).ports = s.ports := rfl
@[simp] theorem report_portStats (s : State) (r : Report) : (report s r).portStats = s.portStats := rfl
@[simp] theorem report_fenceLimit (s : State) (r : Report) : (report s r).fenceLimit = s.fenceLimit := rfl
@[simp] theorem report_pointer (s : State) (r : Report) : (report s r).pointer = s.pointer := rfl
@[simp] theorem report_offer (s : State) (r : Report) : (report s r).offer = s.offer := rfl
@[simp] theorem report_memory (s : State) (r : Report) : (report s r).memory = s.memory := rfl
@[simp] theorem report_events (s : State) (r : Report) : (report s r).events = storeIn s.events (positionOf s.calendar) r := rfl
@[simp] theorem report_link (s : State) (r : Report) : (report s r).link = s.link := rfl
@[simp] theorem report_outputs (s : State) (r : Report) : (report s r).outputs = s.outputs := rfl
@[simp] theorem report_serial (s : State) (r : Report) : (report s r).serial = s.serial := rfl
@[simp] theorem report_choices (s : State) (r : Report) : (report s r).choices = s.choices := rfl

/-! ### `sendAnswers` -/

@[simp] theorem sendAnswers_pending (s : State) (p : Port) (l : List Answer) : (sendAnswers s p l).pending = s.pending := rfl
@[simp] theorem sendAnswers_inReset (s : State) (p : Port) (l : List Answer) : (sendAnswers s p l).inReset = s.inReset := rfl
@[simp] theorem sendAnswers_mode (s : State) (p : Port) (l : List Answer) : (sendAnswers s p l).mode = s.mode := rfl
@[simp] theorem sendAnswers_pendingDisengage (s : State) (p : Port) (l : List Answer) : (sendAnswers s p l).pendingDisengage = s.pendingDisengage := rfl
@[simp] theorem sendAnswers_calendar (s : State) (p : Port) (l : List Answer) : (sendAnswers s p l).calendar = s.calendar := rfl
@[simp] theorem sendAnswers_accounts (s : State) (p : Port) (l : List Answer) : (sendAnswers s p l).accounts = s.accounts := rfl
@[simp] theorem sendAnswers_accountStats (s : State) (p : Port) (l : List Answer) : (sendAnswers s p l).accountStats = s.accountStats := rfl
@[simp] theorem sendAnswers_windows (s : State) (p : Port) (l : List Answer) : (sendAnswers s p l).windows = s.windows := rfl
@[simp] theorem sendAnswers_ports (s : State) (p : Port) (l : List Answer) : (sendAnswers s p l).ports = s.ports := rfl
@[simp] theorem sendAnswers_portStats (s : State) (p : Port) (l : List Answer) : (sendAnswers s p l).portStats = s.portStats := rfl
@[simp] theorem sendAnswers_fenceLimit (s : State) (p : Port) (l : List Answer) : (sendAnswers s p l).fenceLimit = s.fenceLimit := rfl
@[simp] theorem sendAnswers_pointer (s : State) (p : Port) (l : List Answer) : (sendAnswers s p l).pointer = s.pointer := rfl
@[simp] theorem sendAnswers_offer (s : State) (p : Port) (l : List Answer) : (sendAnswers s p l).offer = s.offer := rfl
@[simp] theorem sendAnswers_memory (s : State) (p : Port) (l : List Answer) : (sendAnswers s p l).memory = s.memory := rfl
@[simp] theorem sendAnswers_events (s : State) (p : Port) (l : List Answer) : (sendAnswers s p l).events = s.events := rfl
@[simp] theorem sendAnswers_link (s : State) (p : Port) (l : List Answer) : (sendAnswers s p l).link = s.link := rfl
@[simp] theorem sendAnswers_outputs (s : State) (p : Port) (l : List Answer) : (sendAnswers s p l).outputs = { s.outputs with answers := s.outputs.answers.set p (s.outputs.answers[p] ++ l) } := rfl
@[simp] theorem sendAnswers_serial (s : State) (p : Port) (l : List Answer) : (sendAnswers s p l).serial = s.serial := rfl
@[simp] theorem sendAnswers_choices (s : State) (p : Port) (l : List Answer) : (sendAnswers s p l).choices = s.choices := rfl

/-! ### `closeTransfer` -/

@[simp] theorem closeTransfer_pending (s : State) (n : Nat) (r : Response) : (closeTransfer s n r).pending = s.pending := rfl
@[simp] theorem closeTransfer_inReset (s : State) (n : Nat) (r : Response) : (closeTransfer s n r).inReset = s.inReset := rfl
@[simp] theorem closeTransfer_mode (s : State) (n : Nat) (r : Response) : (closeTransfer s n r).mode = s.mode := rfl
@[simp] theorem closeTransfer_pendingDisengage (s : State) (n : Nat) (r : Response) : (closeTransfer s n r).pendingDisengage = s.pendingDisengage := rfl
@[simp] theorem closeTransfer_calendar (s : State) (n : Nat) (r : Response) : (closeTransfer s n r).calendar = s.calendar := rfl
@[simp] theorem closeTransfer_accounts (s : State) (n : Nat) (r : Response) : (closeTransfer s n r).accounts = s.accounts := rfl
@[simp] theorem closeTransfer_accountStats (s : State) (n : Nat) (r : Response) : (closeTransfer s n r).accountStats = s.accountStats := rfl
@[simp] theorem closeTransfer_windows (s : State) (n : Nat) (r : Response) : (closeTransfer s n r).windows = s.windows := rfl
@[simp] theorem closeTransfer_ports (s : State) (n : Nat) (r : Response) : (closeTransfer s n r).ports = s.ports := rfl
@[simp] theorem closeTransfer_portStats (s : State) (n : Nat) (r : Response) : (closeTransfer s n r).portStats = s.portStats := rfl
@[simp] theorem closeTransfer_fenceLimit (s : State) (n : Nat) (r : Response) : (closeTransfer s n r).fenceLimit = s.fenceLimit := rfl
@[simp] theorem closeTransfer_pointer (s : State) (n : Nat) (r : Response) : (closeTransfer s n r).pointer = s.pointer := rfl
@[simp] theorem closeTransfer_offer (s : State) (n : Nat) (r : Response) : (closeTransfer s n r).offer = s.offer := rfl
@[simp] theorem closeTransfer_memory (s : State) (n : Nat) (r : Response) : (closeTransfer s n r).memory = s.memory := rfl
@[simp] theorem closeTransfer_events (s : State) (n : Nat) (r : Response) : (closeTransfer s n r).events = s.events := rfl
@[simp] theorem closeTransfer_link (s : State) (n : Nat) (r : Response) : (closeTransfer s n r).link = ⟨false, none, some r, .highImpedance⟩ := rfl
@[simp] theorem closeTransfer_outputs (s : State) (n : Nat) (r : Response) : (closeTransfer s n r).outputs = { s.outputs with ldo := shiftedOut s.link.shifting n } := rfl
@[simp] theorem closeTransfer_serial (s : State) (n : Nat) (r : Response) : (closeTransfer s n r).serial = s.serial := rfl
@[simp] theorem closeTransfer_choices (s : State) (n : Nat) (r : Response) : (closeTransfer s n r).choices = s.choices := rfl

/-! ### `outsideTransfer` -/

@[simp] theorem outsideTransfer_pending (s : State) (low : Bool) : (outsideTransfer s low).pending = s.pending := rfl
@[simp] theorem outsideTransfer_inReset (s : State) (low : Bool) : (outsideTransfer s low).inReset = s.inReset := rfl
@[simp] theorem outsideTransfer_mode (s : State) (low : Bool) : (outsideTransfer s low).mode = s.mode := rfl
@[simp] theorem outsideTransfer_pendingDisengage (s : State) (low : Bool) : (outsideTransfer s low).pendingDisengage = s.pendingDisengage := rfl
@[simp] theorem outsideTransfer_calendar (s : State) (low : Bool) : (outsideTransfer s low).calendar = s.calendar := rfl
@[simp] theorem outsideTransfer_accounts (s : State) (low : Bool) : (outsideTransfer s low).accounts = s.accounts := rfl
@[simp] theorem outsideTransfer_accountStats (s : State) (low : Bool) : (outsideTransfer s low).accountStats = s.accountStats := rfl
@[simp] theorem outsideTransfer_windows (s : State) (low : Bool) : (outsideTransfer s low).windows = s.windows := rfl
@[simp] theorem outsideTransfer_ports (s : State) (low : Bool) : (outsideTransfer s low).ports = s.ports := rfl
@[simp] theorem outsideTransfer_portStats (s : State) (low : Bool) : (outsideTransfer s low).portStats = s.portStats := rfl
@[simp] theorem outsideTransfer_fenceLimit (s : State) (low : Bool) : (outsideTransfer s low).fenceLimit = s.fenceLimit := rfl
@[simp] theorem outsideTransfer_pointer (s : State) (low : Bool) : (outsideTransfer s low).pointer = s.pointer := rfl
@[simp] theorem outsideTransfer_offer (s : State) (low : Bool) : (outsideTransfer s low).offer = s.offer := rfl
@[simp] theorem outsideTransfer_memory (s : State) (low : Bool) : (outsideTransfer s low).memory = s.memory := rfl
@[simp] theorem outsideTransfer_events (s : State) (low : Bool) : (outsideTransfer s low).events = s.events := rfl
@[simp] theorem outsideTransfer_link (s : State) (low : Bool) : (outsideTransfer s low).link = { s.link with lselLow := low, ldo := if low then Config.ldoOutsideTransfer s.choices else .highImpedance } := rfl
@[simp] theorem outsideTransfer_outputs (s : State) (low : Bool) : (outsideTransfer s low).outputs = s.outputs := rfl
@[simp] theorem outsideTransfer_serial (s : State) (low : Bool) : (outsideTransfer s low).serial = s.serial := rfl
@[simp] theorem outsideTransfer_choices (s : State) (low : Bool) : (outsideTransfer s low).choices = if low then s.choices + 1 else s.choices := rfl

/-! ### `clearStrikes` -/

@[simp] theorem clearStrikes_pending (s : State) : (clearStrikes s).pending = s.pending := rfl
@[simp] theorem clearStrikes_inReset (s : State) : (clearStrikes s).inReset = s.inReset := rfl
@[simp] theorem clearStrikes_mode (s : State) : (clearStrikes s).mode = s.mode := rfl
@[simp] theorem clearStrikes_pendingDisengage (s : State) : (clearStrikes s).pendingDisengage = s.pendingDisengage := rfl
@[simp] theorem clearStrikes_calendar (s : State) : (clearStrikes s).calendar = s.calendar := rfl
@[simp] theorem clearStrikes_accounts (s : State) : (clearStrikes s).accounts = s.accounts := rfl
@[simp] theorem clearStrikes_accountStats (s : State) : (clearStrikes s).accountStats = s.accountStats := rfl
@[simp] theorem clearStrikes_windows (s : State) : (clearStrikes s).windows = s.windows := rfl
@[simp] theorem clearStrikes_ports (s : State) : (clearStrikes s).ports = mapEntries (fun u => { u with strikes := 0 }) s.ports := rfl
@[simp] theorem clearStrikes_portStats (s : State) : (clearStrikes s).portStats = s.portStats := rfl
@[simp] theorem clearStrikes_fenceLimit (s : State) : (clearStrikes s).fenceLimit = s.fenceLimit := rfl
@[simp] theorem clearStrikes_pointer (s : State) : (clearStrikes s).pointer = s.pointer := rfl
@[simp] theorem clearStrikes_offer (s : State) : (clearStrikes s).offer = s.offer := rfl
@[simp] theorem clearStrikes_memory (s : State) : (clearStrikes s).memory = s.memory := rfl
@[simp] theorem clearStrikes_events (s : State) : (clearStrikes s).events = s.events := rfl
@[simp] theorem clearStrikes_link (s : State) : (clearStrikes s).link = s.link := rfl
@[simp] theorem clearStrikes_outputs (s : State) : (clearStrikes s).outputs = s.outputs := rfl
@[simp] theorem clearStrikes_serial (s : State) : (clearStrikes s).serial = s.serial := rfl
@[simp] theorem clearStrikes_choices (s : State) : (clearStrikes s).choices = s.choices := rfl

/-! ### `enterMode` -/

@[simp] theorem enterMode_pending (s : State) (m : Mode) : (enterMode s m).pending = s.pending := rfl
@[simp] theorem enterMode_inReset (s : State) (m : Mode) : (enterMode s m).inReset = s.inReset := rfl
@[simp] theorem enterMode_mode (s : State) (m : Mode) : (enterMode s m).mode = m := rfl
@[simp] theorem enterMode_pendingDisengage (s : State) (m : Mode) : (enterMode s m).pendingDisengage = s.pendingDisengage := rfl
@[simp] theorem enterMode_calendar (s : State) (m : Mode) : (enterMode s m).calendar = s.calendar := rfl
@[simp] theorem enterMode_accounts (s : State) (m : Mode) : (enterMode s m).accounts = s.accounts := rfl
@[simp] theorem enterMode_accountStats (s : State) (m : Mode) : (enterMode s m).accountStats = s.accountStats := rfl
@[simp] theorem enterMode_windows (s : State) (m : Mode) : (enterMode s m).windows = s.windows := rfl
@[simp] theorem enterMode_ports (s : State) (m : Mode) : (enterMode s m).ports = s.ports := rfl
@[simp] theorem enterMode_portStats (s : State) (m : Mode) : (enterMode s m).portStats = s.portStats := rfl
@[simp] theorem enterMode_fenceLimit (s : State) (m : Mode) : (enterMode s m).fenceLimit = s.fenceLimit := rfl
@[simp] theorem enterMode_pointer (s : State) (m : Mode) : (enterMode s m).pointer = s.pointer := rfl
@[simp] theorem enterMode_offer (s : State) (m : Mode) : (enterMode s m).offer = s.offer := rfl
@[simp] theorem enterMode_memory (s : State) (m : Mode) : (enterMode s m).memory = s.memory := rfl
@[simp] theorem enterMode_events (s : State) (m : Mode) : (enterMode s m).events = storeIn s.events (positionOf s.calendar) { kind := .modeChange, detail := some (modeCode m) } := rfl
@[simp] theorem enterMode_link (s : State) (m : Mode) : (enterMode s m).link = s.link := rfl
@[simp] theorem enterMode_outputs (s : State) (m : Mode) : (enterMode s m).outputs = s.outputs := rfl
@[simp] theorem enterMode_serial (s : State) (m : Mode) : (enterMode s m).serial = s.serial := rfl
@[simp] theorem enterMode_choices (s : State) (m : Mode) : (enterMode s m).choices = s.choices := rfl

end Sys2Proof.Machine
end

