-- ==== Sys2Proof/Laws/Ops.lean ====
section
/-! SUPPORT. One lemma for each shared operation that says once what it can do, for the proofs to cite
instead of unfolding it. -/

namespace Sys2Proof.Machine

/-! ### Tables -/

theorem mapEntries_eq_map {α β : Type} {n : Nat} (f : α → β) (v : Vector α n) :
    mapEntries f v = v.map f := by
  ext i hi
  simp [mapEntries]

@[simp] theorem mapEntries_get {α β : Type} {n : Nat} (f : α → β) (v : Vector α n) (i : Fin n) :
    (mapEntries f v)[i.val] = f v[i.val] := by
  simp [mapEntries]

theorem set_get {α : Type} {n : Nat} (v : Vector α n) (i j : Fin n) (x : α) :
    (v.set i x)[j.val] = if i = j then x else v[j.val] := by
  simp [Vector.getElem_set, Fin.ext_iff]

theorem set_get_other {α : Type} {n : Nat} (v : Vector α n) {i j : Fin n} (x : α) (h : i ≠ j) :
    (v.set i x)[j.val] = v[j.val] := by
  rw [set_get, if_neg h]

/-- Writing back what an entry holds changes nothing. -/
@[simp] theorem set_same {α : Type} {n : Nat} (v : Vector α n) (i : Fin n) : v.set i v[i.val] = v := by
  ext j hj
  simp

/-- Replacing one port's queue changes that port's queue alone. -/
theorem port_setQueue (s : State) (p q : Port) (l : List Record) :
    (setQueue s p l).ports[q.val] =
      if p = q then { s.ports[p.val] with queue := l } else s.ports[q.val] := by
  simp only [setQueue_ports, set_get, Fin.getElem_fin]

/-! ### Events -/

theorem storeIn_stored (u : EventUnit) (at_ : Position) (r : Report) (h : u.queue.length < 32) :
    storeIn u at_ r =
      { u with
        queue := u.queue ++ [⟨u.nextSequence, u.pendingLoss, at_, r⟩]
        nextSequence := u.nextSequence + 1
        pendingLoss := 0
        alert := alertJudged (u.queue ++ [⟨u.nextSequence, u.pendingLoss, at_, r⟩]) u.mask } := by
  simp [storeIn, Config.eventQueueCapacity, h]

theorem storeIn_dropped (u : EventUnit) (at_ : Position) (r : Report) (h : 32 ≤ u.queue.length) :
    storeIn u at_ r = { u with pendingLoss := min (u.pendingLoss + 1) 255 } := by
  simp [storeIn, Config.eventQueueCapacity, Config.lossCeiling, Nat.not_lt.mpr h]

/-- A report changes the event unit alone. -/
theorem report_eq (s : State) (r : Report) :
    report s r = { s with events := storeIn s.events (positionOf s.calendar) r } := rfl

/-! ### What is due -/

theorem timeOut_of_none_due (s : State) (h : s.memory.issue.all (fun e => !timeoutDue e) = true) :
    timeOut s = s := by
  have : s.memory.issue.find? timeoutDue = none := by
    simpa [List.find?_eq_none] using h
  simp [timeOut, this]

theorem timeOutAll_of_none_due (n : Nat) (s : State)
    (h : s.memory.issue.all (fun e => !timeoutDue e) = true) : timeOutAll n s = s := by
  induction n with
  | zero => rfl
  | succ n ih => rw [timeOutAll, timeOut_of_none_due s h, ih]

theorem takeHeld_of_not_due (s : State) (p : Port) (h : heldDue s p = false) : takeHeld s p = s := by
  unfold takeHeld
  split
  · rfl
  · next t ht =>
    have : holdsOff s.mode s.ports[p] = true := by
      unfold heldDue at h
      rw [ht] at h
      simpa using h
    rw [if_pos this]

/-- Where nothing is due, nothing comes about before a command. -/
theorem settle_of_settled (s : State) (h : settled s = true) : settle s = s := by
  simp only [settled, Bool.and_eq_true, Bool.not_eq_true'] at h
  obtain ⟨⟨ht, hd⟩, hp⟩ := h
  have hp' : ∀ p : Port, takeHeld s p = s := fun p =>
    takeHeld_of_not_due s p (by fin_cases p <;> simp_all [allPorts])
  simp [settle, timeOutAll_of_none_due _ s ht, hd, allPorts, hp']

@[simp] theorem settled_begin (s : State) : settled (begin s) = settled s := rfl

@[simp] theorem settled_openTransfer (s : State) : settled (openTransfer s) = settled s := by
  unfold openTransfer
  split <;> rfl

/-! ### The frame in which a command runs -/

theorem onBus_inReset (s : State) (act : State → State) (h : s.inReset = true) :
    onBus s act = begin s := by simp [onBus, h]

theorem onBus_awake (s : State) (act : State → State) (h : Awake s) : onBus s act = act (begin s) := by
  simp [onBus, h.1, settle_of_settled (begin s) (by simpa using h.2)]

theorem whenDue_due (s : State) (due : State → Bool) (act : State → State) (hr : s.inReset = false)
    (h : due s = true) : whenDue s due act = act (begin s) := by simp [whenDue, hr, h]

theorem whenDue_not_due (s : State) (due : State → Bool) (act : State → State) (h : due s = false) :
    whenDue s due act = begin s := by simp [whenDue, h]

/-- A transfer that the command opens, where none is in progress, gives up the held response and presents its first
bit. -/
theorem openTransfer_eq (s : State) :
    openTransfer s =
      if s.link.shifting.isSome then s
      else { s with
        link := ⟨true, s.link.held, none, firstShown s.link.held⟩
        outputs := { s.outputs with presented := s.link.held.map (ldoBit · 0) } } := by
  unfold openTransfer
  split <;> simp_all [setLink, setOutputs]

/-- A row that ends a transfer of `n` LCK periods leaves the closed link and drives what the claims call
`linkOutputs`. -/
theorem closeTransfer_openTransfer (s : State) (n : Nat) (r : Response) :
    closeTransfer (openTransfer (begin s)) n r =
      { s with link := closedLink r, outputs := linkOutputs s.link n } := by
  rw [openTransfer_eq]
  cases h : s.link.shifting <;>
    simp [closeTransfer, setLink, setOutputs, begin, Outputs.silent, linkOutputs, closedLink, h]

/-- Outside a transfer with LSEL# high, LDO is high impedance. -/
theorem outsideTransfer_high (s : State) :
    outsideTransfer s false = { s with link := { s.link with lselLow := false, ldo := .highImpedance } } := rfl

theorem onLink_open (s : State) (n : Nat) (r : Response) (h : linkOpen s = true) :
    onLink s n r = closeTransfer (openTransfer (begin s)) n r := by simp [onLink, h]

theorem onLink_closed (s : State) (n : Nat) (r : Response) (h : linkOpen s = false) :
    onLink s n r = begin s := by
  simp [onLink, h]

theorem serve_ready (code tag : Byte) (s : State) (act : State → Reply) (h : Ready s) :
    serve code tag s act =
      closeTransfer (act (openTransfer (begin s))).after 192
        ⟨(act (openTransfer (begin s))).status, tag, code,
          padResult (act (openTransfer (begin s))).result⟩ := by
  have := settle_of_settled (openTransfer (begin s)) (by simpa using h.2)
  simp [serve, h.1, this, Config.packetBits]

theorem serve_closed (code tag : Byte) (s : State) (act : State → Reply) (h : linkOpen s = false) :
    serve code tag s act = begin s := by simp [serve, h]

/-! ### Answers -/

theorem quiesceIfEmpty_cases (s : State) (p : Port) :
    (s.ports[p].state = .quiescing ∧ s.ports[p].queue = [] ∧
      quiesceIfEmpty s p =
        report (setPortState s p .quiesced) { kind := .portQuiesced, port := some p }) ∨
    (¬ (s.ports[p].state = .quiescing ∧ s.ports[p].queue = []) ∧ quiesceIfEmpty s p = s) := by
  by_cases h : s.ports[p].state = .quiescing ∧ s.ports[p].queue = []
  · exact .inl ⟨h.1, h.2, by simp_all [quiesceIfEmpty]⟩
  · refine .inr ⟨h, ?_⟩
    unfold quiesceIfEmpty
    rw [if_neg (by simpa using h)]

/-- The queue that answering leaves begins at the first record that is not answerable. -/
theorem answerFront_queue (s : State) (p : Port) :
    (answerFront s p).ports[p].queue = s.ports[p].queue.dropWhile answerable := by
  have h : ∀ t : State, (quiesceIfEmpty t p).ports[p].queue = t.ports[p].queue := by
    intro t
    rcases quiesceIfEmpty_cases t p with ⟨_, _, h⟩ | ⟨_, h⟩ <;> simp [h]
  rw [answerFront, h]
  simp

/-- Answering one port leaves the others as they were. -/
theorem answerFront_other (s : State) (p q : Port) (hne : p ≠ q) :
    (answerFront s p).ports[q] = s.ports[q] := by
  have h : ∀ t : State, (quiesceIfEmpty t p).ports[q] = t.ports[q] := by
    intro t
    rcases quiesceIfEmpty_cases t p with ⟨_, _, h⟩ | ⟨_, h⟩ <;> simp [h, set_get, hne]
  rw [answerFront, h]
  simp [set_get, hne]

/-- A port whose front is not answerable and that is not an empty QUIESCING port has nothing to answer. -/
theorem answerFront_idle (s : State) (p : Port)
    (hq : ∀ r, s.ports[p].queue.head? = some r → answerable r = false)
    (hs : ¬ (s.ports[p].state = .quiescing ∧ s.ports[p].queue = [])) : answerFront s p = s := by
  have hd : s.ports[p].queue.dropWhile answerable = s.ports[p].queue
      ∧ s.ports[p].queue.takeWhile answerable = [] := by
    generalize s.ports[p].queue = l at hq
    cases l with
    | nil => exact ⟨rfl, rfl⟩
    | cons r q =>
      have hr := hq r rfl
      exact ⟨by rw [List.dropWhile_cons, hr]; rfl, by rw [List.takeWhile_cons, hr]; rfl⟩
  obtain ⟨hd, ht⟩ := hd
  have he : sendAnswers (setQueue s p s.ports[p].queue) p [] = s := by
    have h1 := set_same s.ports p
    have h2 := set_same s.outputs.answers p
    simp only [sendAnswers, setQueue, setPort, setOutputs, List.append_nil, Fin.getElem_fin, h1, h2]
  simp only [answerFront, hd, ht, List.map_nil, he]
  rcases quiesceIfEmpty_cases s p with ⟨h1, h2, _⟩ | ⟨_, h⟩
  · exact absurd ⟨h1, h2⟩ hs
  · exact h

/-! ### The selector -/

theorem makeOffer_cases (s : State) :
    (s.offer = none ∧ s.memory.issue.length < s.memory.depth ∧
      makeOffer s = { s with offer := choose s }) ∨
    (¬ (s.offer = none ∧ s.memory.issue.length < s.memory.depth) ∧ makeOffer s = s) := by
  unfold makeOffer
  by_cases h : s.offer = none ∧ s.memory.issue.length < s.memory.depth
  · exact .inl ⟨h.1, h.2, by rw [if_pos (by simp [hasRoom, h])]; rfl⟩
  · refine .inr ⟨h, ?_⟩
    rw [if_neg (by simpa [hasRoom] using h)]

/-- What a port does at its front is what the claims call `answered`. -/
theorem answerFront_eq (s : State) (p : Port) : answerFront s p = answered s p s.ports[p].queue := by
  unfold answerFront answered
  simp only
  generalize s.ports[p].queue.dropWhile answerable = kept
  generalize (s.ports[p].queue.takeWhile answerable).map answerOf = gone
  rcases quiesceIfEmpty_cases (sendAnswers (setQueue s p kept) p gone) p with ⟨hs, hq, h⟩ | ⟨hn, h⟩
  · have hc : s.ports[p].state = .quiescing ∧ kept = [] :=
      ⟨by simpa [setQueue, setPort] using hs, by simpa [setQueue, setPort] using hq⟩
    rw [h, if_pos hc, if_pos hc]
    simp [report, setEvents, setPortState, setPort, sendAnswers, setOutputs, setQueue]
  · have hc : ¬ (s.ports[p].state = .quiescing ∧ kept = []) := by
      simpa [setQueue, setPort] using hn
    rw [h, if_neg hc, if_neg hc]
    rfl

/-- What the selector does is what the claims call `offering`. -/
theorem makeOffer_eq (s : State) : makeOffer s = offering s := by
  unfold offering
  rcases makeOffer_cases s with ⟨ho, hr, h⟩ | ⟨hn, h⟩
  · rw [h, if_pos ⟨ho, hr⟩]
  · rw [h, if_neg hn]

/-- The drain test is the drain of R118. -/
theorem drained_iff (s : State) : drained s = true ↔ DrainComplete s := by
  have hw : ∀ x : EntryState, (!(x == EntryState.waiting)) = true ↔ x = .abandoned := by
    intro x
    cases x <;> simp
  simp only [drained, DrainComplete, Bool.and_eq_true, List.all_eq_true, waitsForCompletion, hw]
  refine and_congr_left fun _ => ⟨fun h p => ?_, fun h x hx => ?_⟩
  · simpa using h s.ports[p] (by simp)
  · obtain ⟨i, hi, rfl⟩ := List.getElem_of_mem hx
    simpa using h ⟨i, by simpa using hi⟩

theorem candidate_mem {u : PortUnit} {r : Record} (h : candidate u = some r) :
    r ∈ u.queue ∧ r.state = .waiting := by
  refine ⟨List.mem_of_find?_eq_some h, ?_⟩
  simpa [isWaiting] using List.find?_some h

/-! ### Accounts -/

theorem refill_override (a : Account) (v : Nat) (h : a.override = some v) :
    refill a = { a with count := v, override := none } := by simp [refill, h]

theorem refill_debt (a : Account) (h : a.override = none) (hc : a.count < 0) :
    refill a = { a with count := a.preload + a.count } := by simp [refill, h, hc]

theorem refill_credit (a : Account) (h : a.override = none) (hc : 0 ≤ a.count) :
    refill a = { a with count := a.preload } := by simp [refill, h, Int.not_lt.mpr hc]

/-- One charge subtracts the beats, counts them, and produces ACCOUNT_EXHAUSTED exactly when the count
crosses from 1 or more to 0 or below. -/
theorem chargeOne_cases (beats : Nat) (s : State) (a : AccountIx) :
    (chargeOne beats s a).accounts =
        s.accounts.set a { s.accounts[a] with count := s.accounts[a].count - beats } ∧
    (chargeOne beats s a).events =
      if 1 ≤ s.accounts[a].count ∧ s.accounts[a].count - beats ≤ 0 then
        storeIn s.events (positionOf s.calendar) { kind := .accountExhausted, account := some a }
      else s.events := by
  unfold chargeOne
  constructor
  · dsimp only
    split <;> rfl
  · dsimp only
    split <;> rfl

/-! ### Free order -/

/-- Whatever number names the order, it is an order of the same elements. -/
theorem arrange_perm {α : Type} : ∀ (k : Nat) (l : List α), (arrange k l).Perm l := by
  intro k l
  induction l generalizing k with
  | nil => cases k <;> exact List.Perm.refl _
  | cons x xs ih =>
    cases xs with
    | nil => exact List.Perm.refl _
    | cons y ys =>
      rw [arrange]
      · have h := ih (k / ((y :: ys).length + 1))
        exact (List.perm_insertIdx _ _ (by
          rw [h.length_eq]
          exact Nat.lt_succ_iff.mp (Nat.mod_lt _ (Nat.succ_pos _)))).trans (h.cons x)
      · simp

/-! ### The issue list -/

theorem abandonFirst_length (l : List Entry) : (abandonFirst l).length = l.length := by
  induction l with
  | nil => rfl
  | cons e es ih =>
    unfold abandonFirst
    split <;> simp [ih]

theorem abandonFirst_of_none_due (l : List Entry) (h : ∀ e ∈ l, timeoutDue e = false) :
    abandonFirst l = l := by
  induction l with
  | nil => rfl
  | cons e es ih =>
    rw [abandonFirst, if_neg (by simp [h e]), ih fun f hf => h f (by simp [hf])]

/-! ### What is due, in the words of the claims -/

theorem timeoutDue_iff (e : Entry) : timeoutDue e = true ↔ AtLimit e := by
  simp [timeoutDue, AtLimit, and_assoc]

theorem heldDue_iff (s : State) (p : Port) : heldDue s p = true ↔ Releasable s p := by
  simp [heldDue, holdsOff, Releasable, Config.portQueueCapacity, and_assoc, Option.isSome_iff_ne_none]
  intros
  exact decide_eq_false_iff_not.trans Nat.not_le

theorem settled_iff (s : State) : settled s = true ↔ NothingDue s := by
  have ht : (s.memory.issue.all fun e => !timeoutDue e) = true ↔ ∀ e ∈ s.memory.issue, ¬ AtLimit e := by
    simp [← timeoutDue_iff]
  have hd : (!drainDue s) = true ↔ ¬ (s.mode = .engaging ∧ DrainComplete s) := by
    simp [drainDue, ← drained_iff, imp_iff_not_or]
  have hh : (allPorts.all fun p => !heldDue s p) = true ↔ ∀ p : Port, ¬ Releasable s p := by
    simp [← heldDue_iff, allPorts, Fin.forall_fin_succ]
  rw [settled, Bool.and_eq_true, Bool.and_eq_true, ht, hd, hh]
  exact ⟨fun ⟨⟨a, b⟩, c⟩ => ⟨a, b, c⟩, fun ⟨a, b, c⟩ => ⟨⟨a, b⟩, c⟩⟩

/-! ### The tick -/

/-- A tick of the calendar ends the slot, or it takes one from the ticks remaining and withdraws the offer of a slot
that is then closing. -/
theorem tickCalendar_cases (s : State) :
    (s.calendar.ticks ≤ 1 ∧ belowLastSlot s.calendar = true ∧ tickCalendar s = expireSlot s) ∨
    (s.calendar.ticks ≤ 1 ∧ belowLastSlot s.calendar = false ∧ tickCalendar s = boundary s) ∨
    (2 ≤ s.calendar.ticks ∧ tickCalendar s =
      { s with
        calendar := { s.calendar with ticks := s.calendar.ticks - 1 }
        offer := if s.calendar.ticks - 1 ≤ (currentSlot s.calendar).cutoff then none else s.offer }) := by
  by_cases h : s.calendar.ticks ≤ 1
  · cases hb : belowLastSlot s.calendar
    · exact .inr (.inl ⟨h, rfl, by simp [tickCalendar, expire, h, hb]⟩)
    · exact .inl ⟨h, rfl, by simp [tickCalendar, expire, h, hb]⟩
  · refine .inr (.inr ⟨by omega, ?_⟩)
    by_cases hc : s.calendar.ticks - 1 ≤ (currentSlot s.calendar).cutoff
    · simp only [tickCalendar, if_neg h, if_pos hc]
      exact if_pos (decide_eq_true hc)
    · simp only [tickCalendar, if_neg h, if_neg hc]
      exact if_neg (by simpa [closing, setCalendar, currentSlot, activeBank] using hc)

/-! ### The bits of a transfer -/

theorem ofBoolListBE_byteBits (b : Byte) : BitVec.ofBoolListBE (byteBits b) = b := by
  refine BitVec.eq_of_getMsbD_eq fun i hi => ?_
  refine (BitVec.getMsbD_ofBoolListBE (bs := byteBits b)).trans ?_
  match i, hi with
  | 0, _ | 1, _ | 2, _ | 3, _ | 4, _ | 5, _ | 6, _ | 7, _ => rfl

theorem byteBits_gather (b : Byte) (rest : List Bool) :
    gatherBytes (byteBits b ++ rest) = b :: gatherBytes rest :=
  congrArg (· :: gatherBytes rest) (ofBoolListBE_byteBits b)

/-- Bytes that are spread into bits are gathered again, whatever follows them. -/
theorem gatherBytes_spreadBytes (bytes : List Byte) (rest : List Bool) :
    gatherBytes (spreadBytes bytes ++ rest) = bytes ++ gatherBytes rest := by
  induction bytes with
  | nil => rfl
  | cons b bs ih =>
    rw [spreadBytes, List.flatMap_cons, List.append_assoc, byteBits_gather, ← spreadBytes, ih, List.cons_append]

/-- Fewer than eight bits form no byte. -/
theorem gatherBytes_unfinished (bits : List Bool) (h : bits.length < 8) : gatherBytes bits = [] := by
  rw [gatherBytes]
  rintro b0 b1 b2 b3 b4 b5 b6 b7 rest rfl
  simp only [List.length_cons] at h
  omega

/-! ### Chains and standing (R23, R24, R25) -/

/-- The account that lies `k` parent links above another, if there is one. -/
def above (accounts : Vector Account 8) : Nat → AccountIx → Option AccountIx
  | 0, a => some a
  | k + 1, a => accounts[a].parent.bind (above accounts k)

theorem above_add (accounts : Vector Account 8) (i j : Nat) (a : AccountIx) :
    above accounts (i + j) a = (above accounts i a).bind (above accounts j) := by
  induction i generalizing a with
  | zero => simp [above]
  | succ i ih =>
    rw [Nat.succ_add, above, above]
    cases accounts[a].parent with
    | none => rfl
    | some p => exact ih p

theorem mem_chainFrom (accounts : Vector Account 8) (n : Nat) (a x : AccountIx) :
    x ∈ chainFrom accounts n a ↔ ∃ k < n, above accounts k a = some x := by
  induction n generalizing a with
  | zero => simp [chainFrom]
  | succ n ih =>
    have hs : (∃ k < n + 1, above accounts k a = some x)
        ↔ x = a ∨ ∃ k < n, above accounts (k + 1) a = some x := by
      constructor
      · rintro ⟨_ | k, hk, h⟩
        · exact .inl (Option.some.inj h).symm
        · exact .inr ⟨k, by omega, h⟩
      · rintro (rfl | ⟨k, hk, h⟩)
        · exact ⟨0, by omega, rfl⟩
        · exact ⟨k + 1, by omega, h⟩
    rw [hs, chainFrom, List.mem_cons]
    refine or_congr_right ?_
    simp only [above]
    cases accounts[a].parent with
    | none => simp
    | some p => simpa using ih p

theorem onChain_iff_above (accounts : Vector Account 8) (a x : AccountIx) :
    OnChain accounts a x ↔ ∃ k, above accounts k a = some x := by
  constructor
  · intro h
    induction h with
    | own => exact ⟨0, rfl⟩
    | up _ hp ih =>
      obtain ⟨k, hk⟩ := ih
      exact ⟨k + 1, by rw [above_add, hk]; simpa [above] using hp⟩
  · rintro ⟨k, hk⟩
    induction k generalizing x with
    | zero => exact Option.some.inj hk ▸ .own
    | succ k ih =>
      rw [above_add] at hk
      obtain ⟨y, hy, hx⟩ := Option.bind_eq_some_iff.mp hk
      refine .up (ih y hy) ?_
      simpa [above] using hx

/-- An account that lies on a chain lies on it within eight steps, for there are eight accounts. -/
theorem above_within (accounts : Vector Account 8) (a x : AccountIx) (h : ∃ k, above accounts k a = some x) :
    ∃ k < 8, above accounts k a = some x := by
  classical
  refine ⟨Nat.find h, ?_, Nat.find_spec h⟩
  by_contra hk
  have hx := Nat.find_spec h
  have hsome : ∀ i ≤ Nat.find h, ∃ y, above accounts i a = some y := by
    intro i hi
    have := above_add accounts i (Nat.find h - i) a
    rw [Nat.add_sub_cancel' hi, hx] at this
    obtain ⟨y, hy, _⟩ := Option.bind_eq_some_iff.mp this.symm
    exact ⟨y, hy⟩
  obtain ⟨i, j, hij, he⟩ := Fintype.exists_ne_map_eq_of_card_lt
    (fun i : Fin 9 => (hsome i (by omega)).choose) (by simp)
  have hval : ∀ i : Fin 9, above accounts i a = some (hsome i (by omega)).choose := fun i =>
    (hsome i (by omega)).choose_spec
  have hee : above accounts i a = above accounts j a := by rw [hval i, hval j]; exact congrArg some he
  have key : ∀ i j : Fin 9, i < j → above accounts i a = above accounts j a → False := by
    intro i j hlt hee
    refine Nat.find_min h (m := i + (Nat.find h - j)) (by omega) ?_
    rw [above_add, hee, ← above_add, Nat.add_sub_cancel' (by omega), hx]
  rcases lt_or_gt_of_ne hij with hlt | hlt
  · exact key i j hlt hee
  · exact key j i hlt hee.symm

/-- The chain is the account with all that its parent links lead to. -/
theorem mem_chain (accounts : Vector Account 8) (a x : AccountIx) :
    x ∈ chain accounts a ↔ OnChain accounts a x := by
  rw [chain, mem_chainFrom, onChain_iff_above]
  exact ⟨fun ⟨k, _, h⟩ => ⟨k, h⟩, above_within accounts a x⟩

theorem standing_inBudget_iff (accounts : Vector Account 8) (r : Record) :
    standing accounts r = .inBudget ↔ InBudget accounts r := by
  cases ha : r.account with
  | none => simp [standing, InBudget, ha]
  | some a =>
    have hb : inBudget accounts a = true ↔ InBudget accounts r := by
      simp [inBudget, InBudget, ha, mem_chain]
    rw [← hb]
    simp only [standing, ha]
    split
    · simp_all
    · split <;> simp_all

theorem standing_background_iff (accounts : Vector Account 8) (r : Record) :
    standing accounts r = .background ↔ InBackground accounts r := by
  rw [InBackground, ← standing_inBudget_iff]
  cases ha : r.account with
  | none => simp [standing, ha]
  | some a =>
    simp only [standing, ha]
    split
    · simp
    · split <;> simp_all

end Sys2Proof.Machine
end

