-- ==== Sys2Proof/Laws/PerInstr.lean ====
section
/-! SUPPORT. Facts stated for every command as syntax, one lemma for each constructor of `Instr`. -/

namespace Sys2Proof.Laws

/-- A packet whose operands fill at most bytes 2 to 21 has 24 bytes (R145). -/
theorem packetOf_length (code tag : Byte) (operands : List Byte) (h : operands.length ≤ 20) :
    (packetOf code tag operands).length = 24 := by
  simp [packetOf, halfBytes]
  omega

/-- Every byte is spread into eight bits (R143). -/
theorem spreadBytes_length (bytes : List Byte) : (spreadBytes bytes).length = 8 * bytes.length := by
  induction bytes with
  | nil => rfl
  | cons b bs ih =>
    rw [spreadBytes, List.flatMap_cons, List.length_append, ← spreadBytes, ih, List.length_cons, byteBits]
    simp
    omega

/-- A packet is sent in at most 192 bits (R143, R145). -/
theorem packetBits_length (code tag : Byte) (operands : List Byte) (h : operands.length ≤ 20) :
    (spreadBytes (packetOf code tag operands)).length ≤ 192 := by
  rw [spreadBytes_length, packetOf_length code tag operands h]

/-- No command takes more than the 192 bits of one packet to send (R143, R145). -/
def PacketLength.Statement (i : Instr) : Prop :=
  i.wellFormed = true → ∀ bits, encodeTransfer i = some bits → bits.length ≤ 192

theorem PacketLength.resetAssert :
    PacketLength.Statement .resetAssert := fun _ _ e => nomatch e

theorem PacketLength.resetRelease :
    PacketLength.Statement .resetRelease := fun _ _ e => nomatch e

theorem PacketLength.tick :
    PacketLength.Statement .tick := fun _ _ e => nomatch e

theorem PacketLength.slotExpiry :
    PacketLength.Statement .slotExpiry := fun _ _ e => nomatch e

theorem PacketLength.frameBoundary :
    PacketLength.Statement .frameBoundary := fun _ _ e => nomatch e

theorem PacketLength.arrival (port : Port) (txn : Txn) :
    PacketLength.Statement (.arrival port txn) := fun _ _ e => nomatch e

theorem PacketLength.heldArrivalTake (port : Port) :
    PacketLength.Statement (.heldArrivalTake port) := fun _ _ e => nomatch e

theorem PacketLength.arrivalWithdraw (port : Port) :
    PacketLength.Statement (.arrivalWithdraw port) := fun _ _ e => nomatch e

theorem PacketLength.take :
    PacketLength.Statement .take := fun _ _ e => nomatch e

theorem PacketLength.completion (report : Completion) :
    PacketLength.Statement (.completion report) := fun _ _ e => nomatch e

theorem PacketLength.entryTimeout :
    PacketLength.Statement .entryTimeout := fun _ _ e => nomatch e

theorem PacketLength.drainComplete :
    PacketLength.Statement .drainComplete := fun _ _ e => nomatch e

theorem PacketLength.transferStart :
    PacketLength.Statement .transferStart := fun _ _ e => nomatch e

theorem PacketLength.shortTransfer (bits : List Bool) :
    PacketLength.Statement (.shortTransfer bits) := by
  intro h bs e
  cases e
  exact Nat.le_of_lt (of_decide_eq_true h)

theorem PacketLength.badcrcPacket (code tag : Byte) :
    PacketLength.Statement (.badcrcPacket code tag) := fun _ _ e => nomatch e

theorem PacketLength.unknownCommand (tag : Byte) (what : Unnamed) :
    PacketLength.Statement (.unknownCommand tag what) := by
  intro _ bs e
  cases what <;> cases e <;> exact packetBits_length _ _ _ (Nat.le_of_ble_eq_true rfl)

theorem PacketLength.nop (tag : Byte) :
    PacketLength.Statement (.nop tag) := by
  intro _ bs e
  cases e
  exact packetBits_length _ _ _ (Nat.le_of_ble_eq_true rfl)

theorem PacketLength.readStatus (tag : Byte) :
    PacketLength.Statement (.readStatus tag) := by
  intro _ bs e
  cases e
  exact packetBits_length _ _ _ (Nat.le_of_ble_eq_true rfl)

theorem PacketLength.writeBankHeader (tag bank slots : Byte) :
    PacketLength.Statement (.writeBankHeader tag bank slots) := by
  intro _ bs e
  cases e
  exact packetBits_length _ _ _ (Nat.le_of_ble_eq_true rfl)

theorem PacketLength.writeSlot (tag bank index : Byte) (entry : Quad) :
    PacketLength.Statement (.writeSlot tag bank index entry) := by
  intro _ bs e
  cases e
  exact packetBits_length _ _ _ (Nat.le_of_ble_eq_true rfl)

theorem PacketLength.readBank (tag bank : Byte) :
    PacketLength.Statement (.readBank tag bank) := by
  intro _ bs e
  cases e
  exact packetBits_length _ _ _ (Nat.le_of_ble_eq_true rfl)

theorem PacketLength.readSlot (tag bank index : Byte) :
    PacketLength.Statement (.readSlot tag bank index) := by
  intro _ bs e
  cases e
  exact packetBits_length _ _ _ (Nat.le_of_ble_eq_true rfl)

theorem PacketLength.switch (tag : Byte) (signature : Half) :
    PacketLength.Statement (.switch tag signature) := by
  intro _ bs e
  cases e
  exact packetBits_length _ _ _ (Nat.le_of_ble_eq_true rfl)

theorem PacketLength.cancelSwitch (tag : Byte) :
    PacketLength.Statement (.cancelSwitch tag) := by
  intro _ bs e
  cases e
  exact packetBits_length _ _ _ (Nat.le_of_ble_eq_true rfl)

theorem PacketLength.writeWindow (tag port window : Byte) (entry : RawWindow) :
    PacketLength.Statement (.writeWindow tag port window entry) := by
  intro _ bs e
  cases e
  exact packetBits_length _ _ _ (Nat.le_of_ble_eq_true rfl)

theorem PacketLength.readWindow (tag port window : Byte) :
    PacketLength.Statement (.readWindow tag port window) := by
  intro _ bs e
  cases e
  exact packetBits_length _ _ _ (Nat.le_of_ble_eq_true rfl)

theorem PacketLength.writeAccount (tag account : Byte) (preload : Half) (period parent exhaust : Byte) :
    PacketLength.Statement (.writeAccount tag account preload period parent exhaust) := by
  intro _ bs e
  cases e
  exact packetBits_length _ _ _ (Nat.le_of_ble_eq_true rfl)

theorem PacketLength.readAccount (tag account : Byte) :
    PacketLength.Statement (.readAccount tag account) := by
  intro _ bs e
  cases e
  exact packetBits_length _ _ _ (Nat.le_of_ble_eq_true rfl)

theorem PacketLength.stageOverride (tag account flag : Byte) (value : Half) :
    PacketLength.Statement (.stageOverride tag account flag value) := by
  intro _ bs e
  cases e
  exact packetBits_length _ _ _ (Nat.le_of_ble_eq_true rfl)

theorem PacketLength.clearOverride (tag account : Byte) :
    PacketLength.Statement (.clearOverride tag account) := by
  intro _ bs e
  cases e
  exact packetBits_length _ _ _ (Nat.le_of_ble_eq_true rfl)

theorem PacketLength.refillNow (tag account : Byte) :
    PacketLength.Statement (.refillNow tag account) := by
  intro _ bs e
  cases e
  exact packetBits_length _ _ _ (Nat.le_of_ble_eq_true rfl)

theorem PacketLength.engage (tag bank : Byte) (signature : Half) :
    PacketLength.Statement (.engage tag bank signature) := by
  intro _ bs e
  cases e
  exact packetBits_length _ _ _ (Nat.le_of_ble_eq_true rfl)

theorem PacketLength.disengage (tag : Byte) :
    PacketLength.Statement (.disengage tag) := by
  intro _ bs e
  cases e
  exact packetBits_length _ _ _ (Nat.le_of_ble_eq_true rfl)

theorem PacketLength.halt (tag : Byte) :
    PacketLength.Statement (.halt tag) := by
  intro _ bs e
  cases e
  exact packetBits_length _ _ _ (Nat.le_of_ble_eq_true rfl)

theorem PacketLength.restart (tag : Byte) :
    PacketLength.Statement (.restart tag) := by
  intro _ bs e
  cases e
  exact packetBits_length _ _ _ (Nat.le_of_ble_eq_true rfl)

theorem PacketLength.quiesce (tag port flush : Byte) :
    PacketLength.Statement (.quiesce tag port flush) := by
  intro _ bs e
  cases e
  exact packetBits_length _ _ _ (Nat.le_of_ble_eq_true rfl)

theorem PacketLength.resume (tag port : Byte) :
    PacketLength.Statement (.resume tag port) := by
  intro _ bs e
  cases e
  exact packetBits_length _ _ _ (Nat.le_of_ble_eq_true rfl)

theorem PacketLength.setTickDivider (tag : Byte) (value : Quad) :
    PacketLength.Statement (.setTickDivider tag value) := by
  intro _ bs e
  cases e
  exact packetBits_length _ _ _ (Nat.le_of_ble_eq_true rfl)

theorem PacketLength.setDepth (tag : Byte) (value : Quad) :
    PacketLength.Statement (.setDepth tag value) := by
  intro _ bs e
  cases e
  exact packetBits_length _ _ _ (Nat.le_of_ble_eq_true rfl)

theorem PacketLength.setTimeout (tag : Byte) (value : Quad) :
    PacketLength.Statement (.setTimeout tag value) := by
  intro _ bs e
  cases e
  exact packetBits_length _ _ _ (Nat.le_of_ble_eq_true rfl)

theorem PacketLength.setFaultAction (tag : Byte) (value : Quad) :
    PacketLength.Statement (.setFaultAction tag value) := by
  intro _ bs e
  cases e
  exact packetBits_length _ _ _ (Nat.le_of_ble_eq_true rfl)

theorem PacketLength.setFenceLimit (tag : Byte) (value : Quad) :
    PacketLength.Statement (.setFenceLimit tag value) := by
  intro _ bs e
  cases e
  exact packetBits_length _ _ _ (Nat.le_of_ble_eq_true rfl)

theorem PacketLength.setAlertMask (tag : Byte) (value : Quad) :
    PacketLength.Statement (.setAlertMask tag value) := by
  intro _ bs e
  cases e
  exact packetBits_length _ _ _ (Nat.le_of_ble_eq_true rfl)

theorem PacketLength.discardAbandoned (tag : Byte) :
    PacketLength.Statement (.discardAbandoned tag) := by
  intro _ bs e
  cases e
  exact packetBits_length _ _ _ (Nat.le_of_ble_eq_true rfl)

theorem PacketLength.readEvent (tag : Byte) :
    PacketLength.Statement (.readEvent tag) := by
  intro _ bs e
  cases e
  exact packetBits_length _ _ _ (Nat.le_of_ble_eq_true rfl)

theorem PacketLength.ackEvent (tag : Byte) (sequence : Half) :
    PacketLength.Statement (.ackEvent tag sequence) := by
  intro _ bs e
  cases e
  exact packetBits_length _ _ _ (Nat.le_of_ble_eq_true rfl)

theorem PacketLength.readStats (tag object clear : Byte) :
    PacketLength.Statement (.readStats tag object clear) := by
  intro _ bs e
  cases e
  exact packetBits_length _ _ _ (Nat.le_of_ble_eq_true rfl)

theorem PacketLength.lselRiseWithoutTransfer :
    PacketLength.Statement .lselRiseWithoutTransfer := fun _ _ e => nomatch e

end Sys2Proof.Laws
end

