-- ==== Sys2Proof/Tests/Slice0.lean ====
section
/-! SUPPORT. Tests: the smoke test of WellFormed, packets decoded, small steps taken from the manual's
worked examples, and one witness for every statement of Certificates/Slice0/Obligations.lean that has
hypotheses. -/

namespace Sys2Proof.Tests

-- One theorem after another: checked side by side, they would need a thread each.
set_option Elab.async false

open Sys2Proof Sys2Proof.Machine

/-! ### Helpers -/

/-- The state that a command leaves. -/
def after (c : Instr) (s : State) : State :=
  match exec c s with
  | .next t => t
  | .fault _ => s
  | .refused _ => s

/-- The status and the first result bytes of the held response. -/
def reply (s : State) (n : Nat) : Option (LinkStatus × List Byte) :=
  s.link.held.map fun r => (r.status, r.result.take n)

/-- A bank whose first slots are the given ones. -/
def bankWith (entries : List SlotEntry) : Bank :=
  let all := Vector.ofFn fun i : Fin 32 => entries.getD i.val .reset
  ⟨entries.length, all, signatureOf entries.length all⟩

/-- The frame plan of section 1.5. -/
def threeSlots : Bank :=
  bankWith [⟨.port 0, 6, 2, .hold⟩, ⟨.everyPort, 4, 1, .lend⟩, ⟨.quiet, 2, 0, .hold⟩]

/-- ENGAGED under a plan in bank 0, at a slot with some ticks remaining. -/
def engagedIn (b : Bank) (slot : SlotIx) (ticks : Nat) : State :=
  { State.reset with
    mode := .engaged
    calendar := { Calendar.reset with banks := #v[b, Bank.reset], slot, ticks } }

/-- ENGAGED in an OPEN slot with nothing due. -/
def open1 : State := engagedIn threeSlots 1 4

/-- An account with no parent, exhaust mode WAIT. -/
def plain (count : Int) (preload period countdown : Nat) : Account :=
  ⟨count, preload, period, countdown, none, .wait, none⟩

/-- A transaction of some beats; a WRITE carries zeros. -/
def readOf (address beats : Nat) : Txn := ⟨.read, BitVec.ofNat 32 address, Fin.ofNat 16 (beats - 1), []⟩
def writeOf (address beats : Nat) : Txn :=
  ⟨.write, BitVec.ofNat 32 address, Fin.ofNat 16 (beats - 1), List.replicate beats 0⟩

/-- A record with no classification and no history. -/
def record (serial : Nat) (t : Txn) (state : RecordState) : Record :=
  ⟨serial, t, none, none, state, none, none, none⟩

/-- One port in a state, with a queue. -/
def portIn (s : State) (p : Port) (q : List Record) (state : PortState) : State :=
  setPort s p ⟨q, state, 0, none⟩

/-- An event record of a kind. -/
def eventOf (sequence : Nat) (kind : EventKind) : Event :=
  ⟨BitVec.ofNat 16 sequence, 0, ⟨0, 0⟩, { kind }⟩

/-- The bits of a command packet: bytes from byte 0, zeros to byte 21, and the CRC. -/
def packet (bytes : List Byte) : List Bool :=
  let body := bytes ++ List.replicate (22 - bytes.length) 0
  spreadBytes (body ++ halfBytes (crc body))

/-! ### WellFormed: an ill-formed term for each check -/

theorem test_illformed_read_with_data : (Instr.arrival 0 ⟨.read, 0, 0, [1]⟩).wellFormed = false := by
  decide
theorem test_illformed_write_short_of_data : (Instr.arrival 0 ⟨.write, 0, 1, [1]⟩).wellFormed = false := by
  decide
theorem test_illformed_completion :
    (Instr.completion (.good (List.replicate 17 0))).wellFormed = false := by decide
theorem test_illformed_short_transfer :
    (Instr.shortTransfer (List.replicate 192 false)).wellFormed = false := by decide +kernel
theorem test_illformed_unknown_code : (Instr.unknownCommand 0 (.code 0x72)).wellFormed = false := by decide
theorem test_illformed_unknown_parameter :
    (Instr.unknownCommand 0 (.parameter 0x06)).wellFormed = false := by decide
theorem test_illformed_stage_flag : (Instr.stageOverride 0 0 0 5).wellFormed = false := by decide
theorem test_wellformed : (Instr.arrival 0 (writeOf 0 16)).wellFormed = true := by decide

/-! ### Bytes: the CRC (R156), signatures (section 10.2), packets (Table 10-3) -/

/-- The empty-bank signature is the CRC of the single byte 00h (R156). -/
theorem test_crc_empty_bank : crc [0x00] = 0xE1F0 := by decide +kernel

/-- The published check value of this CRC, not the manual's: "123456789" gives 29B1h. -/
theorem test_crc_check :
    crc [0x31, 0x32, 0x33, 0x34, 0x35, 0x36, 0x37, 0x38, 0x39] = 0x29B1 := by decide +kernel

/-- The nine bytes that the signature of section 10.2's two-slot bank covers. -/
theorem test_signed_bytes :
    signedBytes 2 (bankWith [⟨.port 1, 100, 8, .lend⟩, ⟨.everyPort, 50, 8, .hold⟩]).entries
      = [0x02, 0x11, 0x00, 0x64, 0x08, 0x40, 0x00, 0x32, 0x08] := by decide +kernel

/-- The reset entry is 50h 00h 01h 00h (section 10.2). -/
theorem test_reset_entry : slotEntryBytes .reset = [0x50, 0x00, 0x01, 0x00] := by decide +kernel

theorem test_decode_link : decodeTransfer (packet [0x00, 0x05]) = .nop 5
    ∧ decodeTransfer (packet [0x01, 0x06]) = .readStatus 6
    ∧ decodeTransfer (packet [0x99, 0x07]) = .unknownCommand 7 (.code 0x99)
    ∧ decodeTransfer (List.replicate 192 false) = .badcrcPacket 0 0
    ∧ decodeTransfer (List.replicate 191 false) = .shortTransfer (List.replicate 191 false) := by
  decide +kernel

/-- Eight bits form a byte, the first of them its most significant; the ninth and tenth form none. -/
theorem test_gather_bits :
    gatherBytes [false, true, true, true, false, false, false, true, true, false] = [0x71] := by
  decide +kernel

theorem test_decode_calendar :
    decodeTransfer (packet [0x10, 1, 0x01, 0x20]) = .writeBankHeader 1 1 32
    ∧ decodeTransfer (packet [0x11, 2, 0x00, 0x1F, 0x11, 0x00, 0x64, 0x08])
        = .writeSlot 2 0 31 0x11006408
    ∧ decodeTransfer (packet [0x12, 3, 0x01]) = .readBank 3 1
    ∧ decodeTransfer (packet [0x13, 4, 0x01, 0x02]) = .readSlot 4 1 2
    ∧ decodeTransfer (packet [0x14, 5, 0xE1, 0xF0]) = .switch 5 0xE1F0
    ∧ decodeTransfer (packet [0x15, 6]) = .cancelSwitch 6 := by decide +kernel

theorem test_decode_windows_and_accounts :
    decodeTransfer (packet [0x20, 1, 0x02, 0x07, 0x01, 0x03, 0x05, 0x00, 0x01, 0x02, 0x3F, 0xFF, 0xFF])
        = .writeWindow 1 2 7 ⟨1, 3, 5, 0x000102, 0x3FFFFF⟩
    ∧ decodeTransfer (packet [0x21, 2, 0x03, 0x01]) = .readWindow 2 3 1
    ∧ decodeTransfer (packet [0x30, 3, 0x04, 0x01, 0x02, 0x09, 0xFF, 0x01])
        = .writeAccount 3 4 0x0102 9 0xFF 1
    ∧ decodeTransfer (packet [0x31, 4, 0x04]) = .readAccount 4 4
    ∧ decodeTransfer (packet [0x32, 5, 0x04, 0x01, 0x00, 0x64]) = .stageOverride 5 4 1 100
    ∧ decodeTransfer (packet [0x32, 6, 0x04, 0x00, 0x00, 0x64]) = .clearOverride 6 4
    ∧ decodeTransfer (packet [0x33, 7, 0x04]) = .refillNow 7 4 := by decide +kernel

theorem test_decode_modes_and_ports :
    decodeTransfer (packet [0x40, 1, 0x01, 0xE1, 0xF0]) = .engage 1 1 0xE1F0
    ∧ decodeTransfer (packet [0x41, 2]) = .disengage 2
    ∧ decodeTransfer (packet [0x42, 3]) = .halt 3
    ∧ decodeTransfer (packet [0x43, 4]) = .restart 4
    ∧ decodeTransfer (packet [0x50, 5, 0x03, 0x01]) = .quiesce 5 3 1
    ∧ decodeTransfer (packet [0x51, 6, 0x03]) = .resume 6 3 := by decide +kernel

theorem test_decode_parameters_and_events :
    decodeTransfer (packet [0x60, 1, 0x01, 0, 1, 0, 0]) = .setTickDivider 1 65536
    ∧ decodeTransfer (packet [0x60, 1, 0x06, 0, 0, 0x13, 0xFF]) = .setAlertMask 1 0x13FF
    ∧ decodeTransfer (packet [0x60, 1, 0x07, 0, 0, 0, 1]) = .unknownCommand 1 (.parameter 0x07)
    ∧ decodeTransfer (packet [0x61, 2]) = .discardAbandoned 2
    ∧ decodeTransfer (packet [0x70, 3]) = .readEvent 3
    ∧ decodeTransfer (packet [0x71, 4, 0x00, 0x82]) = .ackEvent 4 130
    ∧ decodeTransfer (packet [0x72, 5, 0x17, 0x01]) = .readStats 5 0x17 1 := by decide +kernel

/-! ### The calendar's example (section 1.5) -/

theorem test_tick_4_closes :
    let t := after .tick (engagedIn threeSlots 0 3)
    t.calendar.ticks = 2 ∧ closing t.calendar = true := by decide +kernel

theorem test_tick_11_quiet_slot_never_closes :
    let t := after .tick (engagedIn threeSlots 2 2)
    t.calendar.ticks = 1 ∧ closing t.calendar = false := by decide +kernel

/-- Tick 6: slot 0 expires in the tick that takes its ticks remaining to 0. -/
theorem test_tick_6_expires :
    let t := after .tick (engagedIn threeSlots 0 1)
    t = after .slotExpiry (engagedIn threeSlots 0 1)
      ∧ t.calendar.frame = 0 ∧ t.calendar.slot = 1 ∧ t.calendar.ticks = 4 := by decide +kernel

/-- Tick 12: slot 2 expires, and the frame with it. -/
theorem test_tick_12_ends_the_frame :
    let t := after .tick (engagedIn threeSlots 2 1)
    t = after .frameBoundary (engagedIn threeSlots 2 1)
      ∧ t.calendar.frame = 1 ∧ t.calendar.slot = 0 ∧ t.calendar.ticks = 6 := by decide +kernel

/-- Neither row changes anything where the next tick ends no slot of its kind (assumption 2). -/
theorem test_no_expiry_to_come :
    after .slotExpiry open1 = open1 ∧ after .frameBoundary open1 = open1
      ∧ after .frameBoundary (engagedIn threeSlots 0 1) = engagedIn threeSlots 0 1
      ∧ after .slotExpiry (engagedIn threeSlots 2 1) = engagedIn threeSlots 2 1 := by decide +kernel

theorem test_write_slot :
    let t := after (.writeSlot 7 0 1 0x11006408) State.reset
    t.calendar.banks[0].entries[1] = ⟨.port 1, 100, 8, .lend⟩
      ∧ reply t 3 = some (.done, [0x00, 0xE1, 0xF0]) := by decide +kernel

theorem test_write_slot_to_the_running_bank :
    reply (after (.writeSlot 7 0 1 0x11006408) open1) 1 = some (.banklive, [0]) := by decide +kernel

theorem test_write_bank_header_counts_one_slot :
    reply (after (.writeBankHeader 7 0 1) State.reset) 1 = some (.badvalue, [0]) := by decide +kernel

theorem test_read_bank :
    reply (after (.readBank 7 1) State.reset) 3 = some (.done, [0x00, 0xE1, 0xF0]) := by decide +kernel

theorem test_read_slot :
    reply (after (.readSlot 7 0 31) State.reset) 4 = some (.done, [0x50, 0x00, 0x01, 0x00]) := by
  decide +kernel

/-- The staging bank's S is judged before its signature (R16). -/
theorem test_switch_to_an_empty_bank :
    reply (after (.switch 7 0xE1F0) open1) 1 = some (.badvalue, [0]) := by decide +kernel

theorem test_cancel_nothing :
    reply (after (.cancelSwitch 7) open1) 1 = some (.notpending, [0]) := by decide +kernel

/-! ### The accounts' example (section 2.5) -/

/-- A2 and A4 before the third take of frame 0, with P1's 16-beat record offered. -/
def thirdTake : State :=
  { open1 with
    accounts := (open1.accounts.set 2 ⟨8, 40, 1, 1, some 4, .wait, none⟩).set 4 (plain 32 64 2 2)
    ports := open1.ports.set 1
      ⟨[⟨0, readOf 0 16, some 2, some 0, .waiting, none, none, none⟩], .active, 0, none⟩
    serial := 1
    offer := some ⟨1, 0, .opened, true⟩ }

theorem test_third_take_exhausts_the_child :
    let t := after .take thirdTake
    t.accounts[2].count = -8 ∧ t.accounts[4].count = 16
      ∧ t.events.queue.map (fun e => (e.report.kind, e.report.account)) = [(.accountExhausted, some 2)]
      ∧ t.memory.issue.length = 1 ∧ t.pointer = 2 := by decide +kernel

theorem test_boundary_1_refills_the_child :
    let t := after .frameBoundary { engagedIn threeSlots 2 1 with
      accounts := (open1.accounts.set 2 ⟨-8, 40, 1, 1, some 4, .wait, none⟩).set 4 (plain 16 64 2 2) }
    t.accounts[2].count = 32 ∧ t.accounts[2].countdown = 1
      ∧ t.accounts[4].count = 16 ∧ t.accounts[4].countdown = 1 := by decide +kernel

theorem test_boundary_2_takes_the_override :
    countDown { plain 0 64 2 1 with override := some 100 } = plain 100 64 2 2 := by decide +kernel

theorem test_stage_override :
    let t := after (.stageOverride 7 4 1 100) open1
    t.accounts[4].override = some 100 ∧ reply t 3 = some (.done, [0x01, 0x00, 0x64]) := by decide +kernel

theorem test_clear_override :
    reply (after (.clearOverride 7 4) open1) 3 = some (.done, [0, 0, 0]) := by decide +kernel

/-- A2 under A4 may not become A4's parent (R36). -/
theorem test_write_account_loop :
    reply (after (.writeAccount 7 4 64 2 0x02 0) thirdTake) 1 = some (.loop, [0]) := by decide +kernel

theorem test_write_account_parent_byte :
    reply (after (.writeAccount 7 4 64 2 0x08 0) thirdTake) 1 = some (.badvalue, [0]) := by decide +kernel

theorem test_read_account :
    reply (after (.readAccount 7 4) thirdTake) 13
      = some (.done, [0, 0, 0, 32, 0, 64, 2, 2, 0xFF, 0, 0, 0, 0]) := by decide +kernel

/-- A count below 0 is coded in two's complement (R155). -/
theorem test_refill_outside_engaged :
    reply (after (.refillNow 7 4) State.reset) 1 = some (.mode, [0])
      ∧ countBytes (-8) = [0xFF, 0xFF, 0xFF, 0xF8] := by decide +kernel

/-! ### The ports' example (section 3.7) and the windows' example (section 4.6) -/

/-- P2 with rec a ISSUED, rec b REFUSED and rec c WAITING, and rec a's entry in the list. -/
def threeRecords : State :=
  { portIn open1 2
      [⟨0, readOf 10240 4, some 3, some 0, .issued, some .opened, some ⟨0, 1⟩, none⟩,
        record 1 (writeOf 921600 8) (.refused .window),
        ⟨2, readOf 20480 2, some 3, some 0, .waiting, none, none, none⟩] .active with
    memory := { MemorySide.reset with issue := [⟨2, some 0, .read, 4, 0, 0, .waiting⟩] }
    accounts := open1.accounts.set 3 (plain 10 10 1 1)
    serial := 3 }

theorem test_quiesce_with_flush :
    let t := after (.quiesce 7 2 1) threeRecords
    reply t 2 = some (.accepted, [0x01, 0x03])
      ∧ t.ports[2].queue.map Record.state = [.issued, .refused .window, .done .flushed] := by decide +kernel

theorem test_completion_answers_all_three :
    let t := after (.completion (.good [1, 2, 3, 4])) (after (.quiesce 7 2 1) threeRecords)
    t.outputs.answers[2] = [⟨.ok, some .opened, some [1, 2, 3, 4]⟩, ⟨.window, none, none⟩,
        ⟨.flushed, none, none⟩]
      ∧ t.ports[2].state = .quiesced
      ∧ t.events.queue.map (·.report.kind) = [.portQuiesced] := by decide +kernel

theorem test_resume_quiesced :
    (after (.resume 7 2) (portIn open1 2 [] .quiesced)).ports[2].state = .active := by decide +kernel

/-- The two crossing examples of section 3.1. -/
theorem test_crossing : malformed (readOf 1016 2) = true ∧ malformed (readOf 896 16) = false := by
  decide +kernel

/-- P1 with the windows of section 4.6, W3 valid, fence limit 3 and two strikes. -/
def fourWindows : State :=
  { open1 with
    fenceLimit := 3
    windows := open1.windows.set 1 #v[⟨true, 64, 95, .read, 1⟩, ⟨true, 96, 99, .both, 5⟩,
      ⟨true, 0, 1023, .both, 1⟩, ⟨true, 2048, 4095, .both, 2⟩, .reset, .reset, .reset, .reset]
    ports := open1.ports.set 1 ⟨[], .active, 2, none⟩ }

theorem test_arrival_first_window_denies :
    let t := after (.arrival 1 (writeOf 67584 2)) { fourWindows with fenceLimit := 0 }
    t.outputs.answers[1] = [⟨.access, none, none⟩] ∧ t.ports[1].strikes = 3
      ∧ t.events.queue.map (fun e => (e.report.kind, e.report.detail)) = [(.accessDenied, some 0)] := by
  decide +kernel

theorem test_arrival_beyond_w3_fences :
    let t := after (.arrival 1 (readOf 4194304 16)) fourWindows
    t.ports[1].state = .fenced
      ∧ t.events.queue.map (fun e => (e.report.kind, e.report.detail))
          = [(.windowMiss, none), (.portFenced, some 3)] := by decide +kernel

theorem test_write_window :
    let t := after (.writeWindow 7 1 3 ⟨1, 3, 2, 2048, 4095⟩) open1
    (t.windows[1])[3] = ⟨true, 2048, 4095, .both, 2⟩
      ∧ reply t 9 = some (.done, [1, 3, 2, 0x00, 0x08, 0x00, 0x00, 0x0F, 0xFF]) := by decide +kernel

theorem test_read_window :
    reply (after (.readWindow 7 1 0) fourWindows) 9
      = some (.done, [1, 1, 1, 0, 0, 64, 0, 0, 95]) := by decide +kernel

theorem test_held_arrival :
    let t := after (.arrival 1 (readOf 0 1)) (portIn open1 1 [] .quiesced)
    t.ports[1].arrival = some (readOf 0 1) ∧ t.ports[1].queue = []
      ∧ (after (.arrivalWithdraw 1) t).ports[1].arrival = none := by decide +kernel

theorem test_held_arrival_taken :
    let t := after (.heldArrivalTake 1)
      (setPort State.reset 1 ⟨[], .active, 0, some (readOf 0 1)⟩)
    t.ports[1].arrival = none ∧ t.ports[1].queue.length = 1 ∧ t.offer.isSome = true := by decide +kernel

/-! ### The selector's example (section 5.9) -/

/-- P0 held, P1 in-budget with two records, P2 background, in P0's lending slot; pointer at P2. -/
def lendingSlot : State :=
  let s := engagedIn (bankWith [⟨.port 0, 100, 0, .lend⟩, ⟨.quiet, 1, 0, .hold⟩]) 0 50
  let item (n : Nat) (t : Txn) (a : AccountIx) : Record :=
    ⟨n, t, some a, some 0, .waiting, none, none, none⟩
  { s with
    accounts := ((s.accounts.set 0 (plain (-4) 32 1 1)).set 1 (plain 20 20 1 1)).set 2
      ⟨0, 0, 1, 1, none, .background, none⟩
    ports := ((s.ports.set 0 ⟨[item 0 (readOf 0 8) 0], .active, 0, none⟩).set 1
      ⟨[item 1 (writeOf 0 8) 1, item 3 (readOf 0 16) 1], .active, 0, none⟩).set 2
      ⟨[item 2 (readOf 0 4) 2], .active, 0, none⟩
    memory := { MemorySide.reset with depth := 2 }
    pointer := 2
    serial := 4
    offer := some ⟨1, 1, .lent, true⟩ }

theorem test_first_choice_is_lent : choose lendingSlot = some ⟨1, 1, .lent, true⟩ := by decide +kernel

theorem test_take_of_the_lent_write :
    let t := after .take lendingSlot
    t.accounts[1].count = 12 ∧ t.pointer = 2 ∧ t.offer = some ⟨1, 3, .lent, true⟩ := by decide +kernel

theorem test_refill_now_leaves_the_background_offer :
    let t := after (.refillNow 7 0)
      { lendingSlot with
        accounts := lendingSlot.accounts.set 1 (plain (-4) 20 1 1)
        offer := some ⟨2, 2, .background, true⟩ }
    t.accounts[0].count = 28 ∧ t.offer = some ⟨2, 2, .background, true⟩ := by decide +kernel

/-! ### The memory-side port's example (section 6.10) -/

/-- e1 at tick 40 and e2 behind it, with fault action CONTINUE. -/
def stalled : State :=
  { portIn (portIn open1 1 [⟨0, readOf 64 8, none, none, .issued, none, none, none⟩] .active) 3
      [⟨1, writeOf 0 4, none, none, .issued, none, none, none⟩] .active with
    memory := ⟨[⟨1, some 0, .read, 8, 40, 40, .waiting⟩, ⟨3, some 1, .write, 4, 35, 40, .waiting⟩], 2, 40,
      .carryOn⟩
    serial := 2 }

theorem test_timeout_of_e1 :
    let t := after .entryTimeout stalled
    t.memory.issue = [⟨1, none, .read, 8, 40, 40, .abandoned⟩, ⟨3, some 1, .write, 4, 35, 40, .waiting⟩]
      ∧ t.outputs.answers[1] = [⟨.timeout, none, none⟩]
      ∧ t.events.queue.map (fun e => (e.report.kind, e.report.port, e.report.address))
          = [(.downstreamTimeout, some 1, some 64)] := by decide +kernel

theorem test_late_completion :
    let t := after (.completion (.good (List.replicate 8 0))) (after .entryTimeout stalled)
    t.memory.issue.length = 1
      ∧ t.events.queue.map (fun e => (e.report.kind, e.report.detail))
          = [(.downstreamTimeout, none), (.lateCompletion, some 0)] := by decide +kernel

theorem test_discard_abandoned :
    reply (after (.discardAbandoned 7) (after .entryTimeout stalled)) 2 = some (.done, [1, 1]) := by
  decide +kernel

theorem test_set_depth_with_entries :
    reply (after (.setDepth 7 4) { stalled with mode := .pass }) 5 = some (.busy, [2, 0, 0, 0, 2]) := by
  decide +kernel

/-! ### The modes' example (section 7.7) -/

/-- Frame 812 with one tick left in its last slot, with a disengage and a switch pending. -/
def lastExpiry : State :=
  let s := engagedIn threeSlots 2 1
  { s with
    pendingDisengage := true
    calendar := { s.calendar with banks := #v[threeSlots, threeSlots], frame := 812, pendingSwitch := true } }

theorem test_boundary_drops_the_switch :
    let t := after .frameBoundary lastExpiry
    t.mode = .pass ∧ t.calendar.active = 0 ∧ t.calendar.pendingSwitch = false
      ∧ t.pendingDisengage = false ∧ t.calendar.ticks = 0
      ∧ t.events.queue.map (fun e => (e.position, e.report.kind, e.report.detail))
          = [(⟨813, 0⟩, .switchDropped, some 0), (⟨813, 0⟩, .modeChange, some 0)] := by decide +kernel

theorem test_boundary_takes_the_switch :
    let t := after .frameBoundary { lastExpiry with pendingDisengage := false }
    t.mode = .engaged ∧ t.calendar.active = 1 ∧ t.calendar.ticks = 6
      ∧ t.events.queue.map (fun e => (e.report.kind, e.report.detail)) = [(.switchDone, some 1)] := by
  decide +kernel

/-- PASS with a plan in bank 0. -/
def planned : State :=
  { State.reset with calendar := { Calendar.reset with banks := #v[threeSlots, Bank.reset] } }

theorem test_engage_goes_on_to_engaged :
    let t := after (.engage 7 0 threeSlots.signature) planned
    t.mode = .engaged ∧ t.calendar.ticks = 6 ∧ reply t 2 = some (.accepted, [0x02, 0x00])
      ∧ t.events.queue.map (fun e => e.report.detail) = [some 1, some 2] := by decide +kernel

theorem test_engage_an_empty_bank :
    reply (after (.engage 7 1 0xE1F0) planned) 1 = some (.badvalue, [0]) := by decide +kernel

theorem test_drain_complete :
    (after .drainComplete { planned with mode := .engaging }).mode = .engaged := by decide +kernel

theorem test_disengage :
    reply (after (.disengage 7) open1) 2 = some (.accepted, [0x02, 0x01])
      ∧ reply (after (.disengage 7) { open1 with pendingDisengage := true }) 2
          = some (.busy, [0x02, 0x01]) := by decide +kernel

theorem test_halt :
    let t := after (.halt 7) lendingSlot
    t.mode = .halted ∧ reply t 2 = some (.done, [0x03, 0x04])
      ∧ t.outputs.answers[1] = [⟨.halted, none, none⟩, ⟨.halted, none, none⟩] := by decide +kernel

theorem test_restart :
    let t := after (.restart 7) { open1 with mode := .halted }
    t.mode = .pass ∧ t.calendar.slot = 0 ∧ t.calendar.ticks = 0 := by decide +kernel

/-! ### The event unit's example (section 8.5) -/

/-- The full queue after the fourth refusal. -/
def fullQueue : State :=
  { portIn open1 0 [⟨0, readOf 0 1, none, none, .issued, none, none, none⟩] .active with
    memory := { MemorySide.reset with issue := [⟨0, some 0, .read, 1, 0, 0, .waiting⟩] }
    serial := 1
    events := ⟨(List.range 30).map (fun i => eventOf (100 + i) .modeChange)
        ++ [eventOf 130 .windowMiss, eventOf 131 .windowMiss], 132, 3, 0x13FF, true⟩ }

theorem test_full_queue_drops :
    let t := after (.completion .fault) fullQueue
    t.events.queue.length = 32 ∧ t.events.pendingLoss = 4 ∧ t.events.nextSequence = 132 := by decide +kernel

theorem test_ack_event :
    let t := after (.ackEvent 7 100) fullQueue
    reply t 4 = some (.done, [31, 1, 0, 101]) ∧ t.events.alert = true
      ∧ reply (after (.ackEvent 8 100) t) 4 = some (.stale, [31, 1, 0, 101]) := by decide +kernel

theorem test_stored_after_a_loss :
    let t := after (.completion .fault) (after (.ackEvent 7 100) fullQueue)
    t.events.queue.getLast?.map (fun e => (e.sequence, e.lostBefore, e.report.kind))
        = some (132, 3, .downstreamFault) ∧ t.events.pendingLoss = 0 := by decide +kernel

theorem test_read_event :
    reply (after (.readEvent 7) fullQueue) 3 = some (.done, [0, 100, 0x0A]) := by decide +kernel

theorem test_alert_mask_releases_alert :
    (after (.setAlertMask 7 0) fullQueue).events.alert = false := by decide +kernel

theorem test_read_stats_clears :
    let s := countPort State.reset 3 fun x => { x with refusals := 4, passBeats := 9 }
    let t := after (.readStats 7 0x07 1) s
    reply t 8 = some (.done, [0, 0, 0, 4, 0, 0, 0, 0]) ∧ t.portStats[3].refusals = 0
      ∧ t.portStats[3].passBeats = 9 := by decide +kernel

/-! ### The link's example (section 9.3.1), reset, and the remaining parameters -/

theorem test_status_after_reset :
    reply (after (.readStatus 1) State.reset) 15 = some (.done, List.replicate 15 0) := by decide +kernel

/-- From the fall of LSEL# LDO shows the first bit of the response, and nothing before it or after the rise; a
transfer of no bits has presented that bit all the same (R143, R159, Table 10-10). -/
theorem test_ldo_is_driven_from_the_fall :
    let t := after .transferStart State.reset
    State.reset.link.ldo = .highImpedance
      ∧ t.link.ldo = .driven false ∧ t.outputs.presented = some false
      ∧ (after (.shortTransfer []) t).link.ldo = .highImpedance
      ∧ (after (.shortTransfer []) State.reset).outputs.presented = some false
      ∧ (after (.shortTransfer []) State.reset).outputs.ldo = [] := by decide +kernel

/-- The response of section 9.3.1, cut short in its third byte: two bytes are discarded, and LDO has carried the first
19 of the held response's bits (R143, R144). -/
theorem test_cut_short :
    let t := after (.shortTransfer (spreadBytes [0x70, 3] ++ [true, true, true]))
      (after .transferStart (after (.nop 5) State.reset))
    t.link.held = some ⟨.short, 3, 0x70, List.replicate 19 0⟩
      ∧ t.outputs.ldo = spreadBytes [0x01, 5] ++ [false, false, false] := by decide +kernel

theorem test_nop_shifts_out_the_held_response :
    let t := after (.nop 5) (after (.readEvent 4) State.reset)
    t.link.held = some ⟨.done, 5, 0x00, List.replicate 19 0⟩
      ∧ t.outputs.ldo = spreadBytes (responseBytes ⟨.empty, 4, 0x70, List.replicate 19 0⟩) := by decide +kernel

/-- A transfer of 26 bytes carries the 24 response bytes followed by two bytes of zeros (R143). -/
theorem test_ldo_past_the_response :
    let r : Response := ⟨.empty, 4, 0x70, List.replicate 19 0⟩
    ldoBits r 208 = spreadBytes (responseBytes r ++ [0, 0]) := by decide +kernel

theorem test_refused_packets :
    reply (after (.badcrcPacket 1 2) State.reset) 0 = some (.badcrc, [])
      ∧ reply (after (.unknownCommand 2 (.code 9)) State.reset) 0 = some (.badcmd, [])
      ∧ reply (after (.unknownCommand 2 (.parameter 7)) State.reset) 0 = some (.badvalue, []) := by
  decide +kernel

theorem test_rise_without_transfer :
    after .lselRiseWithoutTransfer { State.reset with link := { State.reset.link with lselLow := true } }
      = State.reset := by decide +kernel

theorem test_reset_edges :
    after .resetRelease (after .resetAssert fullQueue) = State.reset := by decide +kernel

theorem test_parameters :
    (after (.setTickDivider 7 65536) State.reset).calendar.divider = 65536
      ∧ (after (.setTimeout 7 65535) State.reset).memory.timeout = 65535
      ∧ (after (.setFaultAction 7 1) State.reset).memory.faultAction = .halt
      ∧ (after (.setFenceLimit 7 15) State.reset).fenceLimit = 15
      ∧ (after (.setDepth 7 4) State.reset).memory.depth = 4 := by decide +kernel

/-- A step takes the command at the front of the queue. -/
theorem test_step :
    (match step { State.reset with pending := [.setFenceLimit 1 2, .tick] } with
      | .next t => (t.fenceLimit, t.pending)
      | .fault _ => (0, [])
      | .refused _ => (0, [])) = (2, [Instr.tick]) := by decide +kernel

/-! ### Witnesses: states and operands that meet the hypotheses of each statement, clause by clause -/

theorem ready_of {s : State} (h : (linkOpen s && settled s) = true) : Ready s := by
  simpa [Ready] using h

theorem awake_of {s : State} (h : (!s.inReset && settled s) = true) : Awake s := by
  simpa [Awake] using h

/-- No port's front record is answerable, as a test. -/
def frontsOf (s : State) : Bool := allPorts.all fun p => s.ports[p].queue.head?.all (!answerable ·)

theorem fronts_of {s : State} (h : frontsOf s = true) : FrontsAnswered s := by
  intro p r hr
  have hp := List.all_eq_true.mp h p (by fin_cases p <;> decide)
  rw [hr] at hp
  simpa using hp

/-- HALTED with nothing waiting. -/
def halted1 : State := { open1 with mode := .halted }

/-- ENGAGING with an ISSUED record of P0 that the drain waits for. -/
def draining : State :=
  { portIn planned 0 [record 0 (readOf 0 1) .issued] .active with
    mode := .engaging
    memory := { MemorySide.reset with issue := [⟨0, some 0, .read, 1, 0, 0, .waiting⟩] }
    serial := 1 }

/-- ENGAGED with a plan in both banks. -/
def twoPlans : State :=
  { open1 with calendar := { open1.calendar with banks := #v[threeSlots, threeSlots] } }

/-- ENGAGED with a switch pending. -/
def switching : State := { twoPlans with calendar := { twoPlans.calendar with pendingSwitch := true } }

/-- ENGAGED with a disengage pending. -/
def disengaging : State := { open1 with pendingDisengage := true }

/-- PASS with a record of P0 offered. -/
def offered : State :=
  { portIn State.reset 0 [record 0 (readOf 0 1) .waiting] .active with
    offer := some ⟨0, 0, .pass, true⟩
    serial := 1 }

/-- An issue list that holds one ABANDONED entry. -/
def lateList : State :=
  { open1 with memory := { MemorySide.reset with
    issue := [⟨1, none, .read, 8, 40, 40, .abandoned⟩] } }

/-- P2 QUIESCED, and P2 FENCED. -/
def quiesced2 : State := portIn open1 2 [] .quiesced
def fenced2 : State := portIn open1 2 [] .fenced

/-- P2 with a full queue, and P2 QUIESCING. -/
def full2 : State := portIn open1 2 (List.replicate 8 (record 0 (readOf 0 1) .issued)) .active
def quiescing2 : State := portIn open1 2 [record 0 (readOf 0 1) .issued] .quiescing

/-- One tick before each expiry of the plan. -/
def lastTick0 : State := engagedIn threeSlots 0 1
def lastTick1 : State := engagedIn threeSlots 1 1
def lastTick2 : State := engagedIn threeSlots 2 1

/-- Every state that the witnesses below use: each is ready for a service command, is awake on the bus, and
has answered its fronts. -/
def stages : List State :=
  [State.reset, open1, thirdTake, threeRecords, fourWindows, lendingSlot, planned, fullQueue, halted1,
    draining, twoPlans, switching, disengaging, offered, lateList, quiesced2, fenced2, full2, quiescing2,
    lastTick0, lastTick1, lastTick2, lastExpiry, { lastExpiry with pendingDisengage := false }]

theorem stages_ready : ∀ s ∈ stages, Ready s := by
  intro s hs
  exact ready_of ((List.all_eq_true (p := fun s => linkOpen s && settled s)).mp (by decide +kernel) s hs)

theorem stages_awake : ∀ s ∈ stages, Awake s := by
  intro s hs
  exact awake_of ((List.all_eq_true (p := fun s => !s.inReset && settled s)).mp (by decide +kernel) s hs)

theorem stages_fronts : ∀ s ∈ stages, FrontsAnswered s := by
  intro s hs
  exact fronts_of ((List.all_eq_true (p := frontsOf)).mp (by decide +kernel) s hs)

theorem witness_ResetHoldsEverythingUntilItsRelease :
    let s : State := { State.reset with inReset := true }
    let u : State := { s with link := { s.link with lselLow := true } }
    State.reset.inReset = false ∧ s.inReset = true ∧ s.link.lselLow = false ∧ s.link.shifting = none
      ∧ u.inReset = true ∧ u.link.lselLow = true
      ∧ Instr.tick ≠ .resetAssert ∧ Instr.tick ≠ .resetRelease
      ∧ Instr.tick ≠ .transferStart ∧ Instr.tick ≠ .lselRiseWithoutTransfer := by decide

theorem witness_StepRunsTheCommandAtTheFront :
    { State.reset with pending := [.tick, .take] }.pending = .tick :: [.take] ∧ State.reset.pending = [] := by
  decide

theorem witness_CommandsCompleteAndLeaveTheQueue :
    Instr.tick ≠ .resetAssert ∧ Instr.tick ≠ .resetRelease := by decide

theorem witness_TransferStartGivesUpTheHeldResponse :
    State.reset.link.shifting = none ∧ State.reset.inReset = false ∧ State.reset.link.lselLow = false
      ∧ State.reset.link.held = some .reset ∧ Response.reset.result.length = 19 ∧ 191 < 192 := by
  decide

/-- The longest short transfer, the shortest complete one with a wrong CRC, and one bit of a byte. -/
theorem witness_TransfersThatReachNoBlock :
    let bits := List.replicate 192 false
    linkOpen State.reset = true ∧ (List.replicate 191 false).length < 192 ∧ 192 ≤ bits.length
      ∧ crc ((gatherBytes bits).take 22) ≠ halfAt (gatherBytes bits) 22
      ∧ 23 < bits.length / 8 ∧ 7 < 8 := by decide +kernel

/-- Two entries at their limits; a complete drain; an arrival held off in vain; and nothing due. -/
theorem witness_WhatIsDueComesAboutBeforeACommandActs :
    let held := setPort State.reset 1 ⟨[], .active, 0, some (readOf 0 1)⟩
    let s := { planned with mode := .engaging }
    (stalled.inReset = false ∧ ∃ e ∈ stalled.memory.issue, AtLimit e)
      ∧ (s.inReset = false ∧ (∀ e ∈ s.memory.issue, ¬ AtLimit e) ∧ s.mode = .engaging ∧ DrainComplete s)
      ∧ (held.inReset = false ∧ (∀ e ∈ held.memory.issue, ¬ AtLimit e) ∧ ¬ held.mode = .engaging
        ∧ Releasable held 1 ∧ ∀ q : Port, q.val < 1 → ¬ Releasable held q)
      ∧ rowKind .tick = .bus ∧ rowKind (.halt 1) = .service ∧ linkOpen stalled = true
      ∧ NothingDue State.reset := by
  simp only [AtLimit, Releasable, ← settled_iff]
  refine ⟨by decide +kernel, ⟨by decide +kernel, by decide +kernel, trivial, ?_, by decide +kernel⟩, by decide +kernel⟩
  intro p
  fin_cases p <;> decide +kernel

/-- Bank writes: a live bank, a pending switch, and neither; S and the entry at their bounds. -/
theorem witness_BankWritesAreJudgedInOrder :
    (0x00 : Byte).toNat ≠ 1 ∧ (0x20 : Byte).toNat ≠ 1 ∧ (0x20 : Byte).toNat ≤ 32
      ∧ (⟨.quiet, 1, 0, .hold⟩ : SlotEntry).Valid ∧ (⟨.port 3, 4095, 255, .lend⟩ : SlotEntry).Valid
      ∧ ((0 : BankIx) = open1.calendar.active ∧ (open1.mode = .engaging ∨ open1.mode = .engaged))
      ∧ ¬ ((1 : BankIx) = open1.calendar.active ∧ (open1.mode = .engaging ∨ open1.mode = .engaged))
      ∧ switching.calendar.pendingSwitch = true
      ∧ State.reset.calendar.pendingSwitch = false := by
  simp only [SlotEntry.Valid]
  decide +kernel

theorem witness_WriteBankHeaderSetsTheSlotCount :
    2 ≤ (0x02 : Byte).toNat ∧ (0x01 : Byte).toNat = 1 ∧ 32 < (0x21 : Byte).toNat
      ∧ ¬ ((0 : BankIx) = State.reset.calendar.active
        ∧ (State.reset.mode = .engaging ∨ State.reset.mode = .engaged)) := by decide

/-- One entry word at each bound that WRITE_SLOT refuses, and an entry above S. -/
theorem witness_WriteSlotReplacesOneEntry :
    32 ≤ (0x20 : Byte).toNat ∧ 6 ≤ ((0x60000100 : Quad).extractLsb' 28 4).toNat
      ∧ 2 ≤ ((0x52000100 : Quad).extractLsb' 24 4).toNat
      ∧ ((0x50000000 : Quad).extractLsb' 8 16).toNat = 0
      ∧ 4096 ≤ ((0x50100000 : Quad).extractLsb' 8 16).toNat
      ∧ (State.reset.calendar.banks[0]).slots ≤ (0 : SlotIx).val := by decide +kernel

theorem witness_ReadsReturnWhatIsStored :
    2 ≤ (0x02 : Byte).toNat ∧ 32 ≤ (0x20 : Byte).toNat ∧ 4 ≤ (0x04 : Byte).toNat ∧ 8 ≤ (0x08 : Byte).toNat := by
  decide

/-- SWITCH outside ENGAGED, with a switch pending, with an empty staging bank, and with either signature. -/
theorem witness_SwitchIsJudgedInOrder :
    let full := { open1.calendar with banks := #v[threeSlots, threeSlots] }
    (1 : BankIx) ≠ open1.calendar.active ∧ State.reset.mode ≠ .engaged ∧ open1.mode = .engaged
      ∧ open1.calendar.pendingSwitch = false ∧ open1.calendar.banks[1].slots = 0
      ∧ full.banks[1].slots ≠ 0 ∧ full.banks[1].signature ≠ 0
      ∧ full.banks[1].signature = threeSlots.signature := by decide +kernel

theorem witness_CancelSwitchClearsThePendingFlag :
    switching.calendar.pendingSwitch = true
      ∧ State.reset.calendar.pendingSwitch = false := by decide +kernel

/-- The bounds of the two parameters, every mode, and a list or an offer in the way. -/
theorem witness_DividerAndDepthAreSetOutsideEngagement :
    (0 : Quad).toNat < 1 ∧ 65536 < (65537 : Quad).toNat ∧ 1 ≤ (1 : Quad).toNat ∧ (65536 : Quad).toNat ≤ 65536
      ∧ 4 < (5 : Quad).toNat ∧ (4 : Quad).toNat ≤ 4 ∧ open1.mode = .engaged
      ∧ draining.mode = .engaging ∧ halted1.mode = .halted
      ∧ State.reset.mode = .pass ∧ State.reset.memory.issue = [] ∧ State.reset.offer = none
      ∧ offered.offer ≠ none ∧ fullQueue.memory.issue ≠ [] := by decide +kernel

theorem witness_ParametersSetInEveryMode :
    (65535 : Quad).toNat ≤ 65535 ∧ 65535 < (65536 : Quad).toNat ∧ (0 : Quad).toNat = 0 ∧ (1 : Quad).toNat = 1
      ∧ 1 < (2 : Quad).toNat ∧ (15 : Quad).toNat ≤ 15 ∧ 15 < (16 : Quad).toNat
      ∧ (8191 : Quad).toNat < 8192 ∧ 8192 ≤ (8192 : Quad).toNat := by decide

theorem witness_WriteWindowReplacesOneWindow :
    (⟨true, 0, 4194303, .both, 7⟩ : Window).base ≤ 4194303 ∧ 4 ≤ (4 : Byte).toNat ∧ 8 ≤ (8 : Byte).toNat
      ∧ 2 ≤ (2 : Byte).toNat ∧ (0 : Byte).toNat = 0 ∧ 4194303 < (0x400000 : Triple).toNat
      ∧ (0 : Triple).toNat < (1 : Triple).toNat := by decide

/-- A parent of its own parent, a free parent, and each operand out of range. -/
theorem witness_WriteAccountDescribesTheAccount :
    (1 : Byte) ≠ 0 ∧ (some 2 : Option AccountIx) ≠ some 4 ∧ (4 : AccountIx) ∈ chain thirdTake.accounts 2
      ∧ (4 : AccountIx) ∉ chain thirdTake.accounts 7 ∧ 8 ≤ (8 : Byte).toNat
      ∧ (8 ≤ (0xFE : Byte).toNat ∧ (0xFE : Byte) ≠ 0xFF) ∧ 2 ≤ (2 : Byte).toNat := by decide +kernel

theorem witness_OverridesAreStagedAndCleared :
    8 ≤ (0x08 : Byte).toNat ∧ 2 ≤ (0x02 : Byte).toNat ∧ 8 ≤ (0xFF : Byte).toNat := by decide

/-- A refill with an override, with a debt, and with neither; a countdown at 1 and above. -/
theorem witness_RefillFollowsItsThreeCases :
    { plain 0 64 2 1 with override := some 100 }.override = some 100
      ∧ (plain (-1) 64 2 1).override = none ∧ (plain (-1) 64 2 1).count < 0
      ∧ 0 ≤ (plain 0 64 2 1).count ∧ (plain 0 64 2 1).countdown = 1 ∧ 2 ≤ (plain 0 64 2 2).countdown
      ∧ (plain (-15) 65535 255 255).InRange := by
  refine ⟨by decide, by decide, by decide, by decide, by decide, by decide, ?_⟩
  constructor <;> simp [plain]

theorem witness_RefillNowRefillsWhileEngaged :
    State.reset.mode ≠ .engaged ∧ lendingSlot.mode = .engaged ∧ 8 ≤ (8 : Byte).toNat := by decide +kernel

/-- The drain of an empty regulator is complete. -/
theorem drained_planned : DrainComplete planned ∧ ¬ DrainComplete fullQueue := by
  refine ⟨⟨?_, ?_⟩, ?_⟩
  · intro p
    fin_cases p <;> decide +kernel
  · exact fun e he => absurd he List.not_mem_nil
  · intro h
    exact absurd (h.1 0) (by decide +kernel)

theorem witness_EngageIsJudgedAndDrains :
    open1.mode ≠ .pass ∧ planned.mode = .pass ∧ planned.calendar.banks[1].slots = 0
      ∧ planned.calendar.banks[0].slots ≠ 0 ∧ planned.calendar.banks[0].signature ≠ 0
      ∧ planned.calendar.banks[0].signature = threeSlots.signature ∧ planned.offer = none
      ∧ 2 ≤ (2 : Byte).toNat := by decide +kernel

theorem witness_DrainCompletionStartsTheRun :
    let s := { planned with mode := .engaging }
    s.inReset = false ∧ s.mode = .engaging ∧ DrainComplete s ∧ s.offer = none
      ∧ open1.inReset = false ∧ open1.mode ≠ .engaging :=
  ⟨by decide, rfl, drained_planned.1, by decide, by decide, by decide⟩

theorem witness_DisengageFollowsTheModeAndTheFlag :
    open1.mode = .engaged ∧ open1.pendingDisengage = false
      ∧ disengaging.pendingDisengage = true
      ∧ draining.mode = .engaging ∧ draining.pendingDisengage = false
      ∧ State.reset.mode = .pass ∧ State.reset.pendingDisengage = false
      ∧ halted1.mode = .halted ∧ halted1.pendingDisengage = false := by
  decide +kernel

theorem witness_HaltSettlesEveryWaitingRecord :
    halted1.mode = .halted ∧ lendingSlot.mode ≠ .halted := by decide +kernel

theorem witness_RestartReturnsToPass :
    State.reset.mode ≠ .halted ∧ halted1.mode = .halted := by decide +kernel

theorem witness_QuiesceDrainsThePort :
    threeRecords.ports[2].state = .active ∧ quiesced2.ports[2].state = .quiesced
      ∧ fenced2.ports[2].state = .fenced ∧ 4 ≤ (4 : Byte).toNat ∧ 2 ≤ (2 : Byte).toNat := by
  decide +kernel

theorem witness_ResumeMakesThePortActive :
    fenced2.ports[2].state ≠ .active ∧ open1.ports[2].state = .active
      ∧ 4 ≤ (4 : Byte).toNat := by decide +kernel

theorem witness_ReadEventLeavesTheRecord :
    State.reset.events.queue = [] ∧ ∃ e rest, fullQueue.events.queue = e :: rest := by
  exact ⟨rfl, _, _, rfl⟩

theorem witness_AckEventRemovesOnlyTheOldest :
    State.reset.events.queue = []
      ∧ ∃ e rest, fullQueue.events.queue = e :: rest ∧ e.sequence = 100 ∧ e.sequence ≠ 101 := by
  exact ⟨rfl, _, _, rfl, by decide +kernel, by decide +kernel⟩

theorem witness_ReadStatsClearsWhatItReturns :
    (8 ≤ (0x08 : Byte).toNat ∧ (0x0F : Byte).toNat < 16) ∧ 24 ≤ (0x18 : Byte).toNat
      ∧ 2 ≤ (0x02 : Byte).toNat := by decide

theorem witness_EventsAreStoredOrDropped :
    (after (.ackEvent 7 100) fullQueue).events.queue.length = 31 ∧ 32 ≤ fullQueue.events.queue.length := by
  decide +kernel

theorem witness_TickCountsTheEntriesAndTheSlot :
    State.reset.mode ≠ .engaged ∧ open1.mode = .engaged ∧ 2 ≤ open1.calendar.ticks
      ∧ (lastTick1.mode = .engaged ∧ lastTick1.calendar.ticks = 1
        ∧ lastTick1.calendar.slot.val + 1 < lastTick1.calendar.banks[lastTick1.calendar.active].slots)
      ∧ (lastTick2.mode = .engaged ∧ lastTick2.calendar.ticks = 1
        ∧ lastTick2.calendar.banks[lastTick2.calendar.active].slots ≤ lastTick2.calendar.slot.val + 1) := by
  decide +kernel

/-- The last slot but one has one tick left; no such expiry is to come in each of the three other ways. -/
theorem witness_SlotExpiryStartsTheNextSlot :
    let s := lastTick1
    s.mode = .engaged ∧ s.calendar.ticks = 1
      ∧ (2 : SlotIx).val = s.calendar.slot.val + 1 ∧ (2 : SlotIx).val < s.calendar.banks[s.calendar.active].slots
      ∧ State.reset.mode ≠ .engaged ∧ 2 ≤ open1.calendar.ticks
      ∧ lastTick2.calendar.banks[lastTick2.calendar.active].slots ≤ lastTick2.calendar.slot.val + 1 := by
  decide +kernel

theorem witness_FrameBoundaryContinuesOrSwitches :
    let s := lastTick2
    let u := { lastExpiry with pendingDisengage := false }
    (s.mode = .engaged ∧ s.calendar.ticks = 1
      ∧ s.calendar.banks[s.calendar.active].slots ≤ s.calendar.slot.val + 1
      ∧ s.pendingDisengage = false ∧ s.calendar.pendingSwitch = false)
    ∧ (u.mode = .engaged ∧ u.calendar.ticks = 1
      ∧ u.calendar.banks[u.calendar.active].slots ≤ u.calendar.slot.val + 1
      ∧ u.pendingDisengage = false ∧ u.calendar.pendingSwitch = true ∧ (1 : BankIx) ≠ u.calendar.active)
    ∧ State.reset.mode ≠ .engaged ∧ 2 ≤ open1.calendar.ticks
    ∧ lastTick1.calendar.slot.val + 1 < lastTick1.calendar.banks[lastTick1.calendar.active].slots := by
  decide +kernel

theorem witness_FrameBoundaryTakesAPendingDisengage :
    let s := lastExpiry
    s.mode = .engaged ∧ s.calendar.ticks = 1
      ∧ s.calendar.banks[s.calendar.active].slots ≤ s.calendar.slot.val + 1 ∧ s.pendingDisengage = true := by
  decide +kernel

/-- Each of the four ways in which an arrival is held off, with the regulator awake. -/
theorem witness_ArrivalsAreHeldOffAndWithdrawn :
    (full2.ports[2].arrival = none ∧ 8 ≤ full2.ports[2].queue.length)
      ∧ (quiescing2.ports[2].arrival = none ∧ quiescing2.ports[2].state = .quiescing)
      ∧ (quiesced2.ports[2].arrival = none ∧ quiesced2.ports[2].state = .quiesced)
      ∧ (draining.ports[2].arrival = none ∧ draining.mode = .engaging) := by decide +kernel

theorem witness_ArrivalInPassWaitsUnclassified :
    State.reset.ports[0].arrival = none ∧ State.reset.mode = .pass ∧ State.reset.ports[0].state = .active
      ∧ State.reset.ports[0].queue.length < 8 ∧ StaysInBlock (readOf 896 16) := by
  refine ⟨by decide, by decide, by decide, by decide, ?_⟩
  simp only [StaysInBlock]
  decide +kernel

/-- The first arrival of section 4.6, decided by W0, and the last block of W3. -/
theorem witness_ArrivalInEngagedIsClassified :
    let w := (fourWindows.windows[1])[(3 : WindowIx)]
    fourWindows.ports[1].arrival = none ∧ fourWindows.mode = .engaged ∧ fourWindows.ports[1].state = .active
      ∧ fourWindows.ports[1].queue.length < 8 ∧ StaysInBlock (readOf 4193280 16) ∧ w.valid = true
      ∧ w.base ≤ (readOf 4193280 16).address.toNat / 1024 ∧ (readOf 4193280 16).address.toNat / 1024 ≤ w.limit
      ∧ w.access = .both
      ∧ ∀ j : WindowIx, j.val < 3 → ¬ ((fourWindows.windows[1])[j].valid = true
        ∧ (fourWindows.windows[1])[j].base ≤ (readOf 4193280 16).address.toNat / 1024
        ∧ (readOf 4193280 16).address.toNat / 1024 ≤ (fourWindows.windows[1])[j].limit) := by
  simp only [StaysInBlock]
  decide +kernel

theorem witness_RefusalWithoutStrikeIsOnlyCounted :
    (halted1.mode = .halted ∧ halted1.ports[2].state = .active ∧ halted1.ports[2].arrival = none)
      ∧ (fenced2.mode = .engaged ∧ fenced2.ports[2].state = .fenced ∧ fenced2.ports[2].arrival = none)
      ∧ (State.reset.mode = .pass ∧ State.reset.ports[2].state = .active
        ∧ ¬ StaysInBlock (readOf 1016 2) ∧ ¬ StaysInBlock (readOf 4 1)) := by
  simp only [StaysInBlock]
  decide +kernel

/-- The second and the sixth arrivals of section 4.6, and a malformed one. -/
theorem witness_EngagedRefusalStrikesAndFences :
    let covered (i : WindowIx) (block : Nat) := (fourWindows.windows[1])[i].valid = true
      ∧ (fourWindows.windows[1])[i].base ≤ block ∧ block ≤ (fourWindows.windows[1])[i].limit
    ¬ StaysInBlock (readOf 1016 2) ∧ StaysInBlock (readOf 4194304 16) ∧ StaysInBlock (writeOf 67584 2)
      ∧ (∀ i, ¬ covered i 4096) ∧ covered 0 66 ∧ (∀ j : WindowIx, j.val < 0 → ¬ covered j 66)
      ∧ ((fourWindows.windows[1])[(0 : WindowIx)].access = .read ∧ (writeOf 67584 2).kind = .write)
      ∧ fourWindows.ports[1].arrival = none ∧ fourWindows.mode = .engaged
      ∧ fourWindows.ports[1].state = .active ∧ fourWindows.ports[1].queue.length < 8 := by
  simp only [StaysInBlock]
  decide +kernel

theorem witness_HeldArrivalIsJudgedAfresh :
    let s := setPort State.reset 1 ⟨[], .active, 0, some (readOf 0 1)⟩
    s.ports[1].arrival = some (readOf 0 1) ∧ heldDue s 1 = true
      ∧ Awake { s with ports := s.ports.set 1 { s.ports[1] with arrival := none } } := by
  refine ⟨by decide +kernel, by decide +kernel, awake_of (by decide +kernel)⟩

theorem witness_TakeWithoutChargeIssuesTheRecord :
    State.reset.offer = none
      ∧ offered.offer = some ⟨0, 0, .pass, true⟩
      ∧ offered.ports[0].queue.find? (fun x => x.serial == 0) = some (record 0 (readOf 0 1) .waiting) := by
  decide +kernel

theorem witness_TakeWithoutChargeOnBackgroundGrounds :
    let s := { lendingSlot with offer := some ⟨2, 2, .background, true⟩ }
    (!s.inReset && settled s) = true
      ∧ (s.ports[2].queue.find? (fun x => x.serial == 2)).bind Record.account = some 2 := by decide +kernel

theorem witness_TakeInBudgetChargesTheChain :
    thirdTake.offer = some ⟨1, 0, .opened, true⟩ ∧ (chain thirdTake.accounts 2).Nodup
      ∧ (thirdTake.ports[1].queue.find? (fun x => x.serial == 0)).bind Record.account = some 2
      ∧ (1 ≤ thirdTake.accounts[2].count ∧ thirdTake.accounts[2].count - 16 ≤ 0)
      ∧ ¬ (thirdTake.accounts[4].count - 16 ≤ 0) := by decide +kernel

theorem witness_CompletionSettlesTheOldestEntry :
    fullQueue.memory.issue = ⟨0, some 0, .read, 1, 0, 0, .waiting⟩ :: []
      ∧ fullQueue.ports[0].queue.find? (fun x => x.serial == 0) = some (record 0 (readOf 0 1) .issued)
      ∧ threeRecords.ports[2].queue.any (fun x => x.issuedAt.any (· != ⟨1, 0⟩)) = true := by decide +kernel

theorem witness_LateAndStrayCompletionsAreDiscarded :
    State.reset.memory.issue = []
      ∧ lateList.memory.issue = ⟨1, none, .read, 8, 40, 40, .abandoned⟩ :: [] := by
  decide +kernel

/-- e1 of section 6.10 at its limit, with nothing before it, under each fault action. -/
theorem witness_TimeoutAbandonsTheEntry :
    let e : Entry := ⟨1, some 0, .read, 8, 40, 40, .waiting⟩
    stalled.inReset = false ∧ stalled.memory.issue = [] ++ e :: [⟨3, some 1, .write, 4, 35, 40, .waiting⟩]
      ∧ e.limit ≠ 0 ∧ e.limit ≤ e.ticks
      ∧ (stalled.ports[1].queue.find? (fun x => x.serial == 0)).isSome = true
      ∧ stalled.memory.faultAction = .carryOn := by decide +kernel

/-- The same entry in HALTED, under fault action HALT. -/
theorem witness_TimeoutAbandonsTheEntryInHalted :
    let e : Entry := ⟨1, some 0, .read, 8, 40, 40, .waiting⟩
    let s := { stalled with mode := .halted, memory := { stalled.memory with faultAction := .halt } }
    s.inReset = false ∧ s.memory.issue = [] ++ e :: [⟨3, some 1, .write, 4, 35, 40, .waiting⟩]
      ∧ (s.ports[1].queue.find? (fun x => x.serial == 0)).isSome = true
      ∧ s.memory.faultAction = .halt ∧ s.mode = .halted := by decide +kernel

theorem witness_TimeoutWithFaultActionHaltHalts :
    let s := { stalled with memory := { stalled.memory with faultAction := .halt } }
    s.memory.faultAction = .halt ∧ s.mode ≠ .halted ∧ s.inReset = false
      ∧ (s.memory.issue.head?.map timeoutDue) = some true := by decide +kernel

/-- The lending slot of section 5.9: P0's candidate is not in-budget, and P1's is the first that is. P2's is
background. -/
theorem witness_SelectorFollowsTheOrderOfChoice :
    lendingSlot.mode = .engaged ∧ (currentSlot lendingSlot.calendar).owner = .port 0
      ∧ (currentSlot lendingSlot.calendar).cutoff < lendingSlot.calendar.ticks
      ∧ FoundNone lendingSlot [0] (InBudget lendingSlot.accounts)
      ∧ (∃ r, FoundFirst lendingSlot [2, 3, 1] (InBudget lendingSlot.accounts) 1 r)
      ∧ ∃ r, candidate lendingSlot.ports[2] = some r ∧ InBackground lendingSlot.accounts r := by
  simp only [FoundNone, FoundFirst, ← standing_inBudget_iff, ← standing_background_iff]
  refine ⟨by decide +kernel, by decide +kernel, by decide +kernel, ?_,
    ⟨_, [2, 3], [], rfl, rfl, by decide +kernel, ?_⟩, ⟨_, rfl, by decide +kernel⟩⟩
  · intro p hp r hr
    simp only [List.mem_singleton] at hp
    subst hp
    have : r = ⟨0, readOf 0 8, some 0, some 0, .waiting, none, none, none⟩ := (Option.some.inj hr).symm
    subst this
    decide +kernel
  · intro q hq r hr
    simp only [List.mem_cons, List.not_mem_nil, or_false] at hq
    rcases hq with rfl | rfl
    · have : r = ⟨2, readOf 0 4, some 2, some 0, .waiting, none, none, none⟩ := (Option.some.inj hr).symm
      subst this
      decide +kernel
    · exact absurd (show (none : Option Record) = some r from hr) (Option.some_ne_none r).symm

/-- The other slots and modes: PASS, HALTED, a slot at its cutoff, a QUIET slot, an OPEN slot with no candidate,
and a HOLD slot whose owner has no candidate. -/
theorem witness_SelectorInTheOtherSlots :
    (offered.mode = .pass ∧ FoundFirst offered [0, 1, 2, 3] (fun _ => True) 0 (record 0 (readOf 0 1) .waiting))
      ∧ halted1.mode = .halted
      ∧ (engagedIn threeSlots 0 2).calendar.ticks ≤ (currentSlot (engagedIn threeSlots 0 2).calendar).cutoff
      ∧ (currentSlot (engagedIn threeSlots 2 1).calendar).owner = .quiet
      ∧ (currentSlot open1.calendar).owner = .everyPort ∧ candidate open1.ports[0] = none
      ∧ ((currentSlot (engagedIn threeSlots 0 6).calendar).owner = .port 0
        ∧ (currentSlot (engagedIn threeSlots 0 6).calendar).idle = .hold) := by
  refine ⟨⟨by decide +kernel, [], _, rfl, rfl, trivial, fun q hq => absurd hq List.not_mem_nil⟩, ?_⟩
  decide +kernel

theorem witness_DecodeReadsEveryEncodedCommand :
    (Instr.halt 3).wellFormed = true ∧ encodeTransfer (.halt 3) = some (spreadBytes (packetOf 0x42 3 []))
      ∧ (spreadBytes (packetOf 0x42 3 [])).length = 192 ∧ (Instr.shortTransfer [true]).wellFormed = true
      ∧ encodeTransfer (.shortTransfer [true]) = some [true] := by decide +kernel

/-! ### Witnesses of the laws: a state that meets each, and a step from it -/

theorem step_reset : step State.reset = .next State.reset := rfl

theorem witness_CapacitiesAreKept : WithinCapacity lendingSlot ∧ WindowsSound lendingSlot := by
  constructor
  · constructor <;> decide +kernel
  · unfold WindowsSound
    decide +kernel

/-- Two records whose numbers follow each other across 65535. -/
theorem witness_EventQueueStaysSound :
    EventsSound { State.reset with events :=
      ⟨[eventOf 65535 .windowMiss, eventOf 0 .modeChange], 1, 0, 0x13FF, true⟩ } := by
  constructor
  · decide +kernel
  · exact ⟨by decide, rfl⟩
  · decide +kernel
  · decide +kernel

theorem slots_valid {entries : List SlotEntry} (hn : 2 ≤ entries.length ∧ entries.length ≤ 32)
    (he : ∀ i : SlotIx, (bankWith entries).entries[i].Valid) : (bankWith entries).Valid :=
  ⟨Or.inr hn, he, rfl⟩

/-- The calendar one tick before an expiry. -/
theorem witness_CalendarStaysSound : CalendarSound lastTick0 := by
  refine ⟨by decide +kernel, ?_, by decide +kernel, by decide +kernel, by decide +kernel, by decide +kernel,
    by decide +kernel, by decide +kernel⟩
  intro b
  fin_cases b
  · refine slots_valid (by decide) ?_
    simp only [SlotEntry.Valid]
    decide +kernel
  · refine ⟨Or.inl rfl, ?_, by decide +kernel⟩
    simp only [SlotEntry.Valid]
    decide +kernel

theorem witness_LinkAlwaysHoldsOneResponse : LinkSound (after .transferStart State.reset) := by
  constructor <;> decide +kernel

theorem witness_NothingThatHappensAtOnceIsLeft : Prompt lendingSlot :=
  ⟨by decide +kernel, stages_fronts _ (by simp [stages]), by decide +kernel, by decide +kernel⟩

theorem witness_AccountsEntriesAndOfferStayCoherent : Coherent lendingSlot := by
  refine ⟨?_, ?_, ?_, ⟨?_, ?_, ?_⟩, ?_⟩
  · unfold Acyclic
    decide +kernel
  · intro a
    fin_cases a <;> constructor <;> decide +kernel
  · unfold RecordsNamed
    decide +kernel
  · decide +kernel
  · decide +kernel
  · decide +kernel
  · intro o ho
    have : o = ⟨1, 1, .lent, true⟩ := (Option.some.inj ho).symm
    subst this
    exact ⟨_, rfl, by decide +kernel⟩

theorem witness_EngagedTrafficIsClassifiedAndTimed :
    Coherent lendingSlot ∧ EngagedRecordsClassified lendingSlot ∧ OfferInOpenSlot lendingSlot := by
  refine ⟨witness_AccountsEntriesAndOfferStayCoherent, ?_, ?_⟩
  · unfold EngagedRecordsClassified
    decide +kernel
  · unfold OfferInOpenSlot
    decide +kernel

theorem witness_EveryTakenTransactionIsAnsweredOnceInOrder :
    Instr.halt 7 ≠ .resetAssert ∧ Coherent lendingSlot
      ∧ exec (.halt 7) lendingSlot = .next (after (.halt 7) lendingSlot)
      ∧ (after (.halt 7) lendingSlot).outputs.answers[1].length = 2 :=
  ⟨by decide, witness_AccountsEntriesAndOfferStayCoherent, rfl, by decide +kernel⟩

end Sys2Proof.Tests
end

section
/-! SUPPORT. What each operation and command makes of the mode, the pending disengage and the calendar, and the
law of the calendar that every step keeps. -/

namespace Sys2Proof.Machine

/-! ### The regime: what the law of the calendar reads of a state -/

/-- The mode, the pending disengage and the calendar. -/
def regime (s : State) : Mode × Bool × Calendar := (s.mode, s.pendingDisengage, s.calendar)

theorem regime_eq_iff {s t : State} :
    regime t = regime s ↔
      t.mode = s.mode ∧ t.pendingDisengage = s.pendingDisengage ∧ t.calendar = s.calendar := by
  simp [regime]

/-- What one application of `f` leaves, a fold over a list leaves. -/
theorem foldl_keeps {σ β γ : Type} (φ : σ → γ) (f : σ → β → σ) (h : ∀ s b, φ (f s b) = φ s) (l : List β)
    (s : σ) : φ (l.foldl f s) = φ s := by
  induction l generalizing s with
  | nil => rfl
  | cons b l ih => rw [List.foldl_cons, ih, h]

@[simp] theorem regime_setPort (s : State) (p : Port) (u : PortUnit) : regime (setPort s p u) = regime s := rfl
@[simp] theorem regime_setQueue (s : State) (p : Port) (q : List Record) :
    regime (setQueue s p q) = regime s := rfl
@[simp] theorem regime_setPortState (s : State) (p : Port) (st : PortState) :
    regime (setPortState s p st) = regime s := rfl
@[simp] theorem regime_setArrival (s : State) (p : Port) (t : Option Txn) :
    regime (setArrival s p t) = regime s := rfl
@[simp] theorem regime_setAccount (s : State) (a : AccountIx) (x : Account) :
    regime (setAccount s a x) = regime s := rfl
@[simp] theorem regime_countPort (s : State) (p : Port) (f : PortStats → PortStats) :
    regime (countPort s p f) = regime s := rfl
@[simp] theorem regime_countAccount (s : State) (a : AccountIx) (f : AccountStats → AccountStats) :
    regime (countAccount s a f) = regime s := rfl
@[simp] theorem regime_setOffer (s : State) (o : Option Offer) : regime (setOffer s o) = regime s := rfl
@[simp] theorem regime_withdraw (s : State) : regime (withdraw s) = regime s := rfl
@[simp] theorem regime_setIssue (s : State) (l : List Entry) : regime (setIssue s l) = regime s := rfl
@[simp] theorem regime_setOutputs (s : State) (o : Outputs) : regime (setOutputs s o) = regime s := rfl
@[simp] theorem regime_begin (s : State) : regime (begin s) = regime s := rfl
@[simp] theorem regime_report (s : State) (r : Report) : regime (report s r) = regime s := rfl
@[simp] theorem regime_changeIn (s : State) (p : Port) (n : Nat) (f : Record → Record) :
    regime (changeIn s p n f) = regime s := rfl
@[simp] theorem regime_outsideTransfer (s : State) (low : Bool) :
    regime (outsideTransfer s low) = regime s := rfl
@[simp] theorem regime_closeTransfer (s : State) (n : Nat) (r : Response) :
    regime (closeTransfer s n r) = regime s := rfl
@[simp] theorem regime_appendRecord (s : State) (p : Port) (t : Txn) (st : RecordState) (a : Option AccountIx)
    (w : Option WindowIx) : regime (appendRecord s p t st a w) = regime s := rfl
@[simp] theorem regime_appendRefused (s : State) (p : Port) (t : Txn) (st : Status) (w : Option WindowIx) :
    regime (appendRefused s p t st w) = regime s := rfl

@[simp] theorem regime_openTransfer (s : State) : regime (openTransfer s) = regime s := by
  unfold openTransfer
  split <;> rfl

@[simp] theorem regime_makeOffer (s : State) : regime (makeOffer s) = regime s := by
  rw [makeOffer_eq]
  rfl

@[simp] theorem regime_answerFront (s : State) (p : Port) : regime (answerFront s p) = regime s := by
  rw [answerFront_eq]
  rfl

@[simp] theorem regime_strike (s : State) (p : Port) : regime (strike s p) = regime s := by
  simp only [strike, fenceTest]
  split <;> simp

@[simp] theorem regime_refuseWithStrike (s : State) (p : Port) (t : Txn) (st : Status) (w : Option WindowIx)
    (r : Report) : regime (refuseWithStrike s p t st w r) = regime s := by
  simp [refuseWithStrike]

@[simp] theorem regime_acceptSteps (s : State) (p : Port) (t : Txn) :
    regime (acceptSteps s p t) = regime s := by
  have hw : regime (decideByWindows s p t) = regime s := by
    unfold decideByWindows
    split <;> simp
  unfold acceptSteps
  split_ifs <;> simp [hw]

@[simp] theorem regime_accept (s : State) (p : Port) (t : Txn) : regime (accept s p t) = regime s := by
  simp [accept]

@[simp] theorem regime_takeHeld (s : State) (p : Port) : regime (takeHeld s p) = regime s := by
  unfold takeHeld
  split
  · rfl
  · split_ifs <;> simp

@[simp] theorem regime_present (s : State) (p : Port) (t : Txn) : regime (present p t s) = regime s := by
  unfold present
  split_ifs <;> simp

@[simp] theorem regime_rejudge (s : State) : regime (rejudge s) = regime s := by
  unfold rejudge
  rw [regime_makeOffer]
  split
  · rfl
  · split_ifs <;> simp

@[simp] theorem regime_charge (s : State) (a : AccountIx) (beats : Nat) :
    regime (charge s a beats) = regime s :=
  foldl_keeps regime _ (fun s a => by dsimp only [chargeOne]; split_ifs <;> simp) _ s

@[simp] theorem regime_chargeTake (s : State) (o : Offer) (r : Record) : regime (chargeTake s o r) = regime s := by
  unfold chargeTake
  split
  · rfl
  · split_ifs <;> simp

@[simp] theorem regime_issue (s : State) (o : Offer) (r : Record) : regime (issue s o r) = regime s := by
  have hp : ∀ (u : State) (p : Port), regime { u with pointer := p } = regime u := fun _ _ => rfl
  simp only [issue, regime_makeOffer, regime_chargeTake]
  split_ifs
  · refine (hp (countPort _ _ _) _).trans ?_
    simp only [regime_countPort, regime_setOutputs, regime_setIssue, regime_changeIn, regime_setOffer]
  · simp only [regime_countPort, regime_setOutputs, regime_setIssue, regime_changeIn, regime_setOffer]

@[simp] theorem regime_takeOffer (s : State) : regime (takeOffer s) = regime s := by
  unfold takeOffer
  split
  · rfl
  · split <;> simp

@[simp] theorem regime_settleRecord (s : State) (e : Entry) (f : Record → Record) :
    regime (settleRecord s e f) = regime s := by
  unfold settleRecord
  split <;> simp

@[simp] theorem regime_noteCompletion (c : Completion) (p : Port) (r : Option Record) (s : State) :
    regime (noteCompletion c p r s) = regime s := by
  unfold noteCompletion
  split
  · split_ifs <;> simp
  · simp

@[simp] theorem regime_complete (c : Completion) (s : State) : regime (complete c s) = regime s := by
  unfold complete
  split
  · simp
  · unfold completeEntry
    split <;> simp

@[simp] theorem regime_answerAll (s : State) : regime (answerAll s) = regime s :=
  foldl_keeps regime _ regime_answerFront _ s

theorem regime_enterHalted (s : State) :
    regime (enterHalted s) = (.halted, false, { s.calendar with pendingSwitch := false }) := by
  simp only [enterHalted, reportMode, regime_report, regime_answerAll]
  rfl

/-- A timeout changes the regime by halting alone. -/
theorem regime_timeOut (s : State) :
    regime (timeOut s) = regime s
      ∨ regime (timeOut s) = (.halted, false, { s.calendar with pendingSwitch := false }) := by
  unfold timeOut
  split
  · exact .inl rfl
  · next e _ =>
    split_ifs
    · refine .inr ?_
      rw [regime_enterHalted, report_calendar, (regime_eq_iff.mp (regime_settleRecord _ e _)).2.2]
      rfl
    · exact .inl (by simp)

theorem regime_enterEngaged (s : State) :
    regime (enterEngaged s) =
      (.engaged, s.pendingDisengage, startSlot { s.calendar with frame := 0 } 0) := by
  simp only [enterEngaged, regime_makeOffer]
  rfl

/-! ### The law of the calendar, part by part -/

theorem CalendarSound.of_regime {s t : State} (h : CalendarSound s) (e : regime t = regime s) :
    CalendarSound t := by
  obtain ⟨hm, hd, hc⟩ := regime_eq_iff.mp e
  exact {
    divider := hc ▸ h.divider
    banks := hc ▸ h.banks
    active := hc ▸ hm ▸ h.active
    staging := hc ▸ h.staging
    position := hc ▸ hm ▸ h.position
    ticks := hc ▸ hm ▸ h.ticks
    switching := hc ▸ hm ▸ h.switching
    disengaging := hd ▸ hm ▸ h.disengaging }

/-- Outside ENGAGING and ENGAGED, with both flags clear, the law asks of the calendar its divider and its banks. -/
theorem calendarSound_of_idle {s : State} (hm : engagingOrEngaged s.mode = false)
    (hp : s.calendar.pendingSwitch = false) (hd : s.pendingDisengage = false)
    (hv : 1 ≤ s.calendar.divider ∧ s.calendar.divider ≤ 65536)
    (hb : ∀ b : BankIx, s.calendar.banks[b].Valid) : CalendarSound s := by
  have hne : s.mode ≠ .engaged := by
    intro h
    rw [h] at hm
    cases hm
  exact {
    divider := hv
    banks := hb
    active := by simp [hm]
    staging := by simp [hp]
    position := fun h => absurd h hne
    ticks := fun h => absurd h hne
    switching := by simp [hp]
    disengaging := by simp [hd] }

/-- Halting leaves the law. -/
theorem CalendarSound.halted {s t : State} (h : CalendarSound s)
    (e : regime t = (.halted, false, { s.calendar with pendingSwitch := false })) : CalendarSound t := by
  simp only [regime, Prod.mk.injEq] at e
  obtain ⟨hm, hd, hc⟩ := e
  exact calendarSound_of_idle (by rw [hm]; rfl) (by rw [hc]) hd (by rw [hc]; exact h.divider)
    (by rw [hc]; exact h.banks)

/-- A slot of the active bank starts: the run is sound if the bank it runs in has that slot. -/
theorem calendarSound_of_started {t : State} {c : Calendar} {d : Bool} {i : SlotIx}
    (e : regime t = (.engaged, d, startSlot c i)) (hi : i.val < (activeBank c).slots)
    (hv : 1 ≤ c.divider ∧ c.divider ≤ 65536) (hb : ∀ b : BankIx, c.banks[b].Valid)
    (hst : c.pendingSwitch = true → (stagingBank c).slots ≠ 0) : CalendarSound t := by
  simp only [regime, Prod.mk.injEq] at e
  obtain ⟨hm, -, hc⟩ := e
  exact {
    divider := hc ▸ hv
    banks := hc ▸ hb
    active := fun _ => hc ▸ Nat.ne_of_gt (Nat.zero_lt_of_lt hi)
    staging := hc ▸ hst
    position := fun _ => hc ▸ hi
    ticks := fun _ => hc ▸ ⟨((hb c.active).entries i).1, Nat.le_refl _⟩
    switching := fun _ => hm
    disengaging := fun _ => hm }

/-! ### What comes about before a command keeps the law -/

theorem CalendarSound.after_timeOut {s : State} (h : CalendarSound s) : CalendarSound (timeOut s) :=
  (regime_timeOut s).elim h.of_regime h.halted

theorem CalendarSound.after_enterEngaged {s : State} (h : CalendarSound s) (hm : s.mode = .engaging) :
    CalendarSound (enterEngaged s) :=
  calendarSound_of_started (regime_enterEngaged s) (Nat.pos_of_ne_zero (h.active (by rw [hm]; rfl)))
    h.divider h.banks h.staging

theorem CalendarSound.after_timeOutAll {s : State} (h : CalendarSound s) (n : Nat) :
    CalendarSound (timeOutAll n s) := by
  induction n generalizing s with
  | zero => exact h
  | succ n ih => exact ih h.after_timeOut

theorem drainDue_mode {s : State} (h : drainDue s = true) : s.mode = .engaging := by
  simp only [drainDue, Bool.and_eq_true, beq_iff_eq] at h
  exact h.1

/-- Settling: the timeouts, then the end of the drain, then the held arrivals of P0 to P3. -/
theorem settle_eq (s : State) :
    settle s = allPorts.foldl takeHeld
      (if drainDue (timeOutAll s.memory.issue.length s) = true
        then enterEngaged (timeOutAll s.memory.issue.length s) else timeOutAll s.memory.issue.length s) := rfl

theorem CalendarSound.after_settle {s : State} (h : CalendarSound s) : CalendarSound (settle s) := by
  have ht := h.after_timeOutAll s.memory.issue.length
  rw [settle_eq]
  refine CalendarSound.of_regime ?_ (foldl_keeps regime takeHeld regime_takeHeld allPorts _)
  split
  · next hd => exact ht.after_enterEngaged (drainDue_mode hd)
  · exact ht

/-! ### The tick -/

/-- An expiry below S−1 starts the next slot; a slot index below S−1 is below 31, for S is at most 32. -/
theorem CalendarSound.after_expireSlot {s : State} (h : CalendarSound s) (hm : s.mode = .engaged)
    (hb : belowLastSlot s.calendar = true) : CalendarSound (expireSlot s) := by
  have hlt : s.calendar.slot.val + 1 < (activeBank s.calendar).slots := by simpa [belowLastSlot] using hb
  have hS : (activeBank s.calendar).slots ≤ 32 := by
    have := (h.banks s.calendar.active).slots
    change (activeBank s.calendar).slots = 0 ∨ _ at this
    change _ ∨ _ ∧ (activeBank s.calendar).slots ≤ 32 at this
    omega
  have hn : (nextSlot s.calendar.slot).val = s.calendar.slot.val + 1 := by
    rw [nextSlot, dif_pos (by omega)]
  have e : regime (expireSlot s)
      = (.engaged, s.pendingDisengage, startSlot s.calendar (nextSlot s.calendar.slot)) := by
    rw [expireSlot, regime_makeOffer, ← hm]
    rfl
  exact calendarSound_of_started e (by omega) h.divider h.banks h.staging

/-- The three ways in which a frame boundary leaves the regime (R15). -/
theorem regime_boundary (s : State) :
    regime (boundary s) =
      if s.pendingDisengage then
        (.pass, false,
          { s.calendar with frame := s.calendar.frame + 1, slot := 0, ticks := 0, pendingSwitch := false })
      else if s.calendar.pendingSwitch then
        (s.mode, s.pendingDisengage, startSlot { s.calendar with
          frame := s.calendar.frame + 1, active := otherBank s.calendar.active, pendingSwitch := false } 0)
      else (s.mode, s.pendingDisengage, startSlot { s.calendar with frame := s.calendar.frame + 1 } 0) := by
  simp only [boundary, regime_makeOffer]
  change regime (if s.pendingDisengage = true then takeDisengage (boundaryCommon s)
    else if s.calendar.pendingSwitch = true then takeSwitch (boundaryCommon s) else _) = _
  split_ifs
  · simp only [takeDisengage]
    split_ifs <;> rfl
  · rfl
  · rfl

theorem CalendarSound.after_boundary {s : State} (h : CalendarSound s) (hm : s.mode = .engaged) :
    CalendarSound (boundary s) := by
  have e := regime_boundary s
  rw [hm] at e
  split_ifs at e with hd hp
  · simp only [regime, Prod.mk.injEq] at e
    obtain ⟨hm, hd, hc⟩ := e
    exact calendarSound_of_idle (by rw [hm]; rfl) (by rw [hc]) hd (by rw [hc]; exact h.divider)
      (by rw [hc]; exact h.banks)
  · exact calendarSound_of_started e (Nat.pos_of_ne_zero (h.staging hp)) h.divider h.banks nofun
  · exact calendarSound_of_started e (Nat.pos_of_ne_zero (h.active (by rw [hm]; rfl))) h.divider h.banks h.staging

/-- A tick that ends no slot leaves at least one of the ticks remaining. -/
theorem CalendarSound.after_tickCalendar {s : State} (h : CalendarSound s) (hm : s.mode = .engaged) :
    CalendarSound (tickCalendar s) := by
  rcases tickCalendar_cases s with ⟨_, hb, e⟩ | ⟨_, _, e⟩ | ⟨h2, e⟩
  · exact e ▸ h.after_expireSlot hm hb
  · exact e ▸ h.after_boundary hm
  · obtain ⟨_, hle⟩ := h.ticks hm
    rw [e]
    exact { h with ticks := fun _ => ⟨Nat.le_sub_of_add_le h2, Nat.le_trans (Nat.sub_le _ _) hle⟩ }

theorem CalendarSound.after_tickBoth {s : State} (h : CalendarSound s) : CalendarSound (tickBoth s) := by
  have hi : CalendarSound (setIssue s (s.memory.issue.map countTick)) := h.of_regime rfl
  simp only [tickBoth]
  split_ifs with hm
  · exact hi.after_tickCalendar hm
  · exact hi

/-! ### The bank commands -/

theorem slotCount?_some {b : Byte} {n : Nat} (h : slotCount? b = some n) : n = 0 ∨ (2 ≤ n ∧ n ≤ 32) := by
  unfold slotCount? at h
  split_ifs at h
  cases h
  omega

theorem slotEntry?_some {raw : Quad} {e : SlotEntry} (h : slotEntry? raw = some e) : e.Valid := by
  simp only [slotEntry?, Option.bind_eq_bind, Option.bind_eq_some_iff] at h
  obtain ⟨o, _, i, _, h⟩ := h
  split_ifs at h with hl
  cases h
  exact ⟨Nat.pos_of_ne_zero fun c => hl (.inl c), Nat.not_lt.mp fun c => hl (.inr c), Nat.le_of_lt_succ (raw.extractLsb' 0 8).isLt⟩

/-- A bank write is refused where the bank is live or a switch is pending; it then changes neither the bank that
runs nor one that is to run. -/
theorem CalendarSound.after_writeBank {s : State} (h : CalendarSound s) (b : BankIx) (n : Nat)
    (entries : Vector SlotEntry 32) (hn : n = 0 ∨ (2 ≤ n ∧ n ≤ 32)) (he : ∀ i : SlotIx, entries[i].Valid) :
    CalendarSound (writeBank s b n entries).after := by
  unfold writeBank bankWriteRefusal
  split_ifs with hlive hp
  · exact h
  · exact h
  have hactive : engagingOrEngaged s.mode = true →
      activeBank (rewriteBank s.calendar b n entries) = activeBank s.calendar := fun hm =>
    set_get_other _ _ fun hb => hlive ⟨hb, hm⟩
  have hrun : s.mode = .engaged →
      activeBank (rewriteBank s.calendar b n entries) = activeBank s.calendar := fun hm =>
    hactive (by rw [hm]; rfl)
  exact {
    divider := h.divider
    banks := fun a => by
      change (s.calendar.banks.set b _)[a.val].Valid
      rw [set_get]
      split
      · exact ⟨hn, he, rfl⟩
      · exact h.banks a
    active := fun hm => by
      rw [setCalendar_calendar, hactive hm]
      exact h.active hm
    staging := fun c => absurd c hp
    position := fun hm => by
      rw [setCalendar_calendar, hrun hm]
      exact h.position hm
    ticks := fun hm => by
      rw [setCalendar_calendar, currentSlot, hrun hm]
      exact h.ticks hm
    switching := fun c => absurd c hp
    disengaging := h.disengaging }

theorem CalendarSound.after_requestSwitch {s : State} (h : CalendarSound s) (signature : Half) :
    CalendarSound (requestSwitch signature s).after := by
  unfold requestSwitch
  split_ifs with hm _ h0
  · exact h
  · exact h
  · exact h
  · exact h
  · exact { h with staging := fun _ => h0, switching := fun _ => not_not.mp hm }

/-! ### The mode commands -/

/-- ENGAGE names a bank whose S is not 0; in PASS no switch and no disengage is pending. -/
theorem CalendarSound.after_requestEngage {s : State} (h : CalendarSound s) (b : BankIx) (signature : Half) :
    CalendarSound (requestEngage b signature s).after := by
  unfold requestEngage
  split_ifs with hm h0
  · exact h
  · exact h
  · exact h
  have hne : ¬ s.mode = .engaged := by
    rw [not_not.mp hm]
    exact nofun
  have he : CalendarSound (enterMode (setCalendar s { s.calendar with active := b }) .engaging) := {
    divider := h.divider
    banks := h.banks
    active := fun _ => h0
    staging := fun c => absurd (h.switching c) hne
    position := nofun
    ticks := nofun
    switching := fun c => absurd (h.switching c) hne
    disengaging := fun c => absurd (h.disengaging c) hne }
  change CalendarSound (startEngaging b s)
  simp only [startEngaging]
  split_ifs
  · exact he.after_enterEngaged rfl
  · exact he

theorem CalendarSound.after_requestDisengage {s : State} (h : CalendarSound s) :
    CalendarSound (requestDisengage s).after := by
  unfold requestDisengage
  split
  · next hm =>
    split_ifs
    · exact h
    · exact { h with disengaging := fun _ => hm }
  · next hm =>
    have hne : ¬ s.mode = .engaged := by
      rw [hm]
      exact nofun
    have he : CalendarSound (enterMode s .pass) :=
      calendarSound_of_idle rfl (Bool.eq_false_iff.mpr fun c => hne (h.switching c))
        (Bool.eq_false_iff.mpr fun c => hne (h.disengaging c)) h.divider h.banks
    exact he.of_regime (regime_makeOffer _)
  · exact h
  · exact h

theorem CalendarSound.after_requestHalt {s : State} (h : CalendarSound s) :
    CalendarSound (requestHalt s).after := by
  unfold requestHalt
  split_ifs
  · exact h
  · exact h.halted (regime_enterHalted s)

theorem CalendarSound.after_requestRestart {s : State} (h : CalendarSound s) :
    CalendarSound (requestRestart s).after := by
  unfold requestRestart
  split_ifs with hm
  · exact h
  have he : ∀ c : Calendar, c.pendingSwitch = false → c.divider = s.calendar.divider →
      c.banks = s.calendar.banks → CalendarSound (enterMode (setCalendar s c) .pass) := fun c hp hv hb =>
    calendarSound_of_idle rfl hp
      (Bool.eq_false_iff.mpr fun d => absurd (h.disengaging d) (by rw [not_not.mp hm]; exact nofun))
      (by rw [enterMode_calendar, setCalendar_calendar, hv]; exact h.divider)
      (by rw [enterMode_calendar, setCalendar_calendar, hb]; exact h.banks)
  exact CalendarSound.of_regime
    (he { s.calendar with frame := 0, slot := 0, ticks := 0, pendingSwitch := false } rfl rfl rfl)
    (regime_makeOffer _)

/-! ### The commands of the other blocks leave the regime -/

@[simp] theorem regime_describeAccount (s : State) (a : AccountIx) (preload period : Nat)
    (parent : Option AccountIx) (exhaust : ExhaustMode) :
    regime (describeAccount a preload period parent exhaust s).after = regime s := by
  unfold describeAccount
  split_ifs
  · rfl
  · simp

@[simp] theorem regime_refillAtOnce (s : State) (a : AccountIx) :
    regime (refillAtOnce a s).after = regime s := by
  unfold refillAtOnce
  split_ifs
  · rfl
  · simp

@[simp] theorem regime_readOldest (s : State) : regime (readOldest s).after = regime s := by
  unfold readOldest
  split <;> rfl

@[simp] theorem regime_acknowledge (s : State) (sequence : Half) :
    regime (acknowledge sequence s).after = regime s := by
  unfold acknowledge
  split
  · rfl
  · split_ifs <;> rfl

@[simp] theorem regime_readStatistics (s : State) (o : StatsObject) (clear : Bool) :
    regime (readStatistics o clear s).after = regime s := by
  cases o <;> cases clear <;> rfl

@[simp] theorem regime_discard (s : State) : regime (discard s).after = regime s := by
  simp [discard]

@[simp] theorem regime_judgeDepth (s : State) (n : Nat) : regime (judgeDepth n s).after = regime s := by
  unfold judgeDepth
  split_ifs <;> rfl

@[simp] theorem regime_quiescePort (s : State) (p : Port) (flush : Bool) :
    regime (quiescePort p flush s).after = regime s := by
  have hf : ∀ u : State, regime (flushPort p u) = regime u := by
    intro u
    unfold flushPort
    dsimp only
    split_ifs <;> simp
  have hq : ∀ u : State, regime (makeOffer (answerFront (if flush then flushPort p u else u) p)) = regime u := by
    intro u
    rw [regime_makeOffer, regime_answerFront]
    split_ifs <;> simp [hf]
  unfold quiescePort
  split
  · rfl
  · rfl
  · exact hq (setPortState s p .quiescing)
  · exact hq (setPortState s p .quiescing)

@[simp] theorem regime_resumePort (s : State) (p : Port) : regime (resumePort p s).after = regime s := by
  unfold resumePort
  split <;> rfl

/-! ### Every command keeps the law -/

/-- What holds of the state of a refusal and of every judgement holds after the operand's check. -/
theorem checked_after {α : Type} (P : State → Prop) {o : Option α} {s : State} {judge : α → Reply} (hs : P s)
    (hj : ∀ x, o = some x → P (judge x).after) : P (checked o s judge).after := by
  cases o with
  | none => exact hs
  | some x => exact hj x rfl

theorem CalendarSound.checked {α : Type} {o : Option α} {s : State} {judge : α → Reply} (h : CalendarSound s)
    (hj : ∀ x, o = some x → CalendarSound (judge x).after) : CalendarSound (checked o s judge).after :=
  checked_after CalendarSound h hj

theorem CalendarSound.onBus {s : State} {act : State → State} (h : CalendarSound s)
    (ha : ∀ u, CalendarSound u → CalendarSound (act u)) : CalendarSound (onBus s act) := by
  have hb : CalendarSound (begin s) := h.of_regime rfl
  unfold Machine.onBus
  split_ifs
  · exact hb
  · exact ha _ hb.after_settle

theorem CalendarSound.whenDue {s : State} {due : State → Bool} {act : State → State} (h : CalendarSound s)
    (ha : ∀ u, CalendarSound u → due u = true → CalendarSound (act u)) (hd : due (begin s) = due s) :
    CalendarSound (whenDue s due act) := by
  have hb : CalendarSound (begin s) := h.of_regime rfl
  unfold Machine.whenDue
  split_ifs with hc
  · simp only [Bool.and_eq_true] at hc
    exact ha _ hb (hd.trans hc.2)
  · exact hb

theorem CalendarSound.onLink {s : State} (h : CalendarSound s) (n : Nat) (r : Response) :
    CalendarSound (onLink s n r) := by
  unfold Machine.onLink
  split_ifs
  · exact h.of_regime (by simp)
  · exact h.of_regime rfl

theorem CalendarSound.serve {code tag : Byte} {s : State} {act : State → Reply} (h : CalendarSound s)
    (ha : ∀ u, CalendarSound u → CalendarSound (act u).after) : CalendarSound (serve code tag s act) := by
  have ho : CalendarSound (openTransfer (begin s)) := h.of_regime (by simp)
  unfold Machine.serve
  split_ifs
  · exact (ha _ ho.after_settle).of_regime rfl
  · exact h.of_regime rfl

theorem bankReset_valid : Bank.reset.Valid where
  slots := .inl rfl
  entries := by simp [Bank.reset, SlotEntry.reset, SlotEntry.Valid]
  signature := by decide +kernel

theorem calendarSound_reset : CalendarSound State.reset :=
  calendarSound_of_idle rfl rfl rfl (by decide) (by
    intro b
    rw [show State.reset.calendar.banks[b] = Bank.reset by simp [State.reset, Calendar.reset]]
    exact bankReset_valid)

/-- Every command completes, and its next state keeps the law: by the kind of its row, and by what its block does. -/
theorem CalendarSound.after_exec {s : State} (h : CalendarSound s) (c : Instr) :
    ∃ t, exec c s = .next t ∧ CalendarSound t := by
  cases c with
  | resetAssert => exact ⟨_, rfl, calendarSound_reset.of_regime rfl⟩
  | resetRelease =>
    refine ⟨_, rfl, ?_⟩
    split_ifs <;> exact h.of_regime rfl
  | tick => exact ⟨_, rfl, h.onBus fun _ hu => hu.after_tickBoth⟩
  | slotExpiry =>
    refine ⟨_, rfl, h.onBus fun u hu => ?_⟩
    split_ifs
    · exact hu.after_tickBoth
    · exact hu
  | frameBoundary =>
    refine ⟨_, rfl, h.onBus fun u hu => ?_⟩
    split_ifs
    · exact hu.after_tickBoth
    · exact hu
  | arrival p x => exact ⟨_, rfl, h.onBus fun u hu => hu.of_regime (regime_present u p x)⟩
  | heldArrivalTake p =>
    exact ⟨_, rfl, h.whenDue (fun u hu _ => hu.of_regime (regime_takeHeld u p)) rfl⟩
  | arrivalWithdraw p => exact ⟨_, rfl, h.onBus fun _ hu => hu.of_regime rfl⟩
  | take => exact ⟨_, rfl, h.onBus fun u hu => hu.of_regime (regime_takeOffer u)⟩
  | completion r => exact ⟨_, rfl, h.onBus fun u hu => hu.of_regime (regime_complete r u)⟩
  | entryTimeout => exact ⟨_, rfl, h.whenDue (fun _ hu _ => hu.after_timeOut) rfl⟩
  | drainComplete => exact ⟨_, rfl, h.whenDue (fun _ hu hd => hu.after_enterEngaged (drainDue_mode hd)) rfl⟩
  | transferStart =>
    refine ⟨_, rfl, ?_⟩
    split_ifs <;> exact h.of_regime (by simp)
  | lselRiseWithoutTransfer =>
    refine ⟨_, rfl, ?_⟩
    split_ifs <;> exact h.of_regime rfl
  | shortTransfer bits => exact ⟨_, rfl, h.onLink _ _⟩
  | badcrcPacket code tag => exact ⟨_, rfl, h.onLink _ _⟩
  | unknownCommand tag what => exact ⟨_, rfl, h.onLink _ _⟩
  | nop tag => exact ⟨_, rfl, h.onLink _ _⟩
  | readStatus tag => exact ⟨_, rfl, h.serve fun _ hu => hu⟩
  | writeBankHeader tag bank slots =>
    exact ⟨_, rfl, h.serve fun u hu => hu.checked fun b _ => hu.checked fun n hn =>
      hu.after_writeBank b n _ (slotCount?_some hn) (hu.banks b).entries⟩
  | writeSlot tag bank index entry =>
    refine ⟨_, rfl, h.serve fun u hu => hu.checked fun b _ => hu.checked fun i _ => hu.checked fun e he =>
      hu.after_writeBank b _ _ (hu.banks b).slots fun j => ?_⟩
    change ((u.calendar.banks[b].entries).set i e)[j.val].Valid
    rw [set_get]
    split
    · exact slotEntry?_some he
    · exact (hu.banks b).entries j
  | readBank tag bank => exact ⟨_, rfl, h.serve fun _ hu => hu.checked fun _ _ => hu⟩
  | readSlot tag bank index =>
    exact ⟨_, rfl, h.serve fun _ hu => hu.checked fun _ _ => hu.checked fun _ _ => hu⟩
  | switch tag signature => exact ⟨_, rfl, h.serve fun _ hu => hu.after_requestSwitch signature⟩
  | cancelSwitch tag =>
    refine ⟨_, rfl, h.serve fun u hu => ?_⟩
    split_ifs
    · exact { hu with staging := nofun, switching := nofun }
    · exact hu
  | writeWindow tag port window entry =>
    exact ⟨_, rfl, h.serve fun _ hu => hu.checked fun _ _ => hu.checked fun _ _ => hu.checked fun _ _ =>
      hu.of_regime rfl⟩
  | readWindow tag port window =>
    exact ⟨_, rfl, h.serve fun _ hu => hu.checked fun _ _ => hu.checked fun _ _ => hu⟩
  | writeAccount tag account preload period parent exhaust =>
    exact ⟨_, rfl, h.serve fun u hu => hu.checked fun _ _ => hu.checked fun _ _ => hu.checked fun _ _ =>
      hu.checked fun _ _ => hu.of_regime (regime_describeAccount ..)⟩
  | readAccount tag account => exact ⟨_, rfl, h.serve fun _ hu => hu.checked fun _ _ => hu⟩
  | stageOverride tag account flag value =>
    exact ⟨_, rfl, h.serve fun _ hu => hu.checked fun _ _ => hu.checked fun _ _ => hu.of_regime rfl⟩
  | clearOverride tag account =>
    exact ⟨_, rfl, h.serve fun _ hu => hu.checked fun _ _ => hu.of_regime rfl⟩
  | refillNow tag account =>
    exact ⟨_, rfl, h.serve fun _ hu => hu.checked fun _ _ => hu.of_regime (regime_refillAtOnce ..)⟩
  | engage tag bank signature =>
    exact ⟨_, rfl, h.serve fun _ hu => hu.checked fun b _ => hu.after_requestEngage b signature⟩
  | disengage tag => exact ⟨_, rfl, h.serve fun _ hu => hu.after_requestDisengage⟩
  | halt tag => exact ⟨_, rfl, h.serve fun _ hu => hu.after_requestHalt⟩
  | restart tag => exact ⟨_, rfl, h.serve fun _ hu => hu.after_requestRestart⟩
  | quiesce tag port flush =>
    exact ⟨_, rfl, h.serve fun _ hu => hu.checked fun _ _ => hu.checked fun _ _ =>
      hu.of_regime (regime_quiescePort ..)⟩
  | resume tag port =>
    exact ⟨_, rfl, h.serve fun _ hu => hu.checked fun _ _ => hu.of_regime (regime_resumePort ..)⟩
  | setTickDivider tag value =>
    refine ⟨_, rfl, h.serve fun u hu => hu.checked fun n hn => ?_⟩
    unfold ranged? at hn
    split_ifs at hn with hr
    cases hn
    split_ifs
    · exact hu
    · exact { hu with divider := hr }
  | setDepth tag value =>
    exact ⟨_, rfl, h.serve fun _ hu => hu.checked fun _ _ => hu.of_regime (regime_judgeDepth ..)⟩
  | setTimeout tag value =>
    exact ⟨_, rfl, h.serve fun _ hu => hu.checked fun _ _ => hu.of_regime rfl⟩
  | setFaultAction tag value =>
    exact ⟨_, rfl, h.serve fun _ hu => hu.checked fun _ _ => hu.of_regime rfl⟩
  | setFenceLimit tag value =>
    exact ⟨_, rfl, h.serve fun _ hu => hu.checked fun _ _ => hu.of_regime rfl⟩
  | setAlertMask tag value =>
    exact ⟨_, rfl, h.serve fun _ hu => hu.checked fun _ _ => hu.of_regime rfl⟩
  | discardAbandoned tag => exact ⟨_, rfl, h.serve fun _ hu => hu.of_regime (regime_discard _)⟩
  | readEvent tag => exact ⟨_, rfl, h.serve fun _ hu => hu.of_regime (regime_readOldest _)⟩
  | ackEvent tag sequence => exact ⟨_, rfl, h.serve fun _ hu => hu.of_regime (regime_acknowledge ..)⟩
  | readStats tag object clear =>
    exact ⟨_, rfl, h.serve fun _ hu => hu.checked fun _ _ => hu.checked fun _ _ =>
      hu.of_regime (regime_readStatistics ..)⟩

/-- Settles O55: each command keeps the law, and a step runs one command or none. -/
theorem calendarStaysSound : Obligations.CalendarStaysSound := by
  unfold Obligations.CalendarStaysSound
  intro s t h e
  unfold step at e
  split at e
  · cases e
    exact h
  · next c rest _ =>
    have hr : CalendarSound { s with pending := rest } := h.of_regime rfl
    obtain ⟨u, hu, hs⟩ := hr.after_exec c
    rw [hu] at e
    cases e
    exact hs

end Sys2Proof.Machine
end

section
/-! SUPPORT. What no block reads of a state: the waiting commands, RESET#, the link, and what was driven outward
before. Every operation of the blocks runs in the same way whatever these are, and leaves them. -/

namespace Sys2Proof.Machine

/-- Values for the fields that no block reads: the waiting commands, whether RESET# is asserted, the link, what LDO
has shown, answers sent before, and what becomes of the forwarded transaction. -/
structure Surroundings where
  pending : List Instr
  inReset : Bool
  link : Link
  presented : Option Bool
  ldo : List Bool
  answers : Vector (List Answer) 4
  forwarded : Option Txn → Option Txn

/-- The state with other surroundings. -/
def within (w : Surroundings) (s : State) : State :=
  { s with
    pending := w.pending
    inReset := w.inReset
    link := w.link
    outputs := ⟨Vector.ofFn fun p => w.answers[p] ++ s.outputs.answers[p], w.forwarded s.outputs.forwarded,
      w.presented, w.ldo⟩ }

/-- An operation of the blocks: it reads nothing of the surroundings and leaves them as they are. -/
def Blind (f : State → State) : Prop := ∀ w s, f (within w s) = within w (f s)

/-- An operation that may also forward a transaction. -/
def BlindButForwarding (f : State → State) : Prop :=
  ∀ w s, (∀ t, w.forwarded (some t) = some t) → f (within w s) = within w (f s)

theorem Blind.forwarding {f : State → State} (h : Blind f) : BlindButForwarding f := fun w s _ => h w s

/-- A reply whose state has other surroundings. -/
def Reply.placed (w : Surroundings) (r : Reply) : Reply := ⟨within w r.after, r.status, r.result⟩

/-- A block's judgement of a command: it reads nothing of the surroundings and leaves them as they are. -/
def BlindReply (act : State → Reply) : Prop := ∀ w s, act (within w s) = (act s).placed w

/-- The surroundings that the state `s` has, with answers sent before and with what becomes of the forwarded
transaction. -/
def surroundingsOf (s : State) (sent : Vector (List Answer) 4) (forwarded : Option Txn → Option Txn) :
    Surroundings :=
  ⟨s.pending, s.inReset, s.link, s.outputs.presented, s.outputs.ldo, sent, forwarded⟩

theorem within_surroundingsOf (s : State) (f : Option Txn → Option Txn)
    (hf : f s.outputs.forwarded = s.outputs.forwarded) :
    within (surroundingsOf s (Vector.replicate 4 []) f) s = s := by
  have ha : (Vector.ofFn fun p : Port => (Vector.replicate 4 ([] : List Answer))[p] ++ s.outputs.answers[p])
      = s.outputs.answers := by
    ext i hi
    simp
  simp only [within, surroundingsOf, ha, hf]

theorem BlindButForwarding.frame {f : State → State} (h : BlindButForwarding f) (s : State) :
    (f s).pending = s.pending ∧ (f s).inReset = s.inReset ∧ (f s).link = s.link
      ∧ (f s).outputs.presented = s.outputs.presented ∧ (f s).outputs.ldo = s.outputs.ldo := by
  have e := h (surroundingsOf s (Vector.replicate 4 []) id) s fun _ => rfl
  rw [within_surroundingsOf s id rfl] at e
  rw [e]
  exact ⟨rfl, rfl, rfl, rfl, rfl⟩

theorem Blind.forwarded {f : State → State} (h : Blind f) (s : State) :
    (f s).outputs.forwarded = s.outputs.forwarded := by
  have e := h (surroundingsOf s (Vector.replicate 4 []) fun _ => s.outputs.forwarded) s
  rw [within_surroundingsOf s _ rfl] at e
  rw [e]
  rfl

/-! ### Four operations in one formula each -/

/-- The state in which a halt makes the ports answer: every WAITING record is settled (R122, R123). -/
def settledByHalt (s : State) : State :=
  { s with
    mode := .halted
    pendingDisengage := false
    calendar := { s.calendar with pendingSwitch := false }
    offer := none
    ports := mapEntries (fun u => { u with queue := u.queue.map (settleWaiting .halted) }) s.ports }

theorem enterHalted_eq (s : State) : enterHalted s = reportMode (answerAll (settledByHalt s)) := rfl

/-- The order in which a halt makes the ports answer. -/
def answerOrder (s : State) : List Port :=
  (allPorts.filter fun p => !aboutToQuiesce s p)
    ++ arrange (Config.quiescedOrder s.choices) (allPorts.filter (aboutToQuiesce s))

theorem answerAll_eq (s : State) :
    answerAll s = { (answerOrder s).foldl answerFront s with choices := s.choices + 1 } := rfl

/-- The end of the drain starts the run that the claims call `startedRun`, and the selector chooses in it. -/
theorem enterEngaged_eq (s : State) : enterEngaged s = offering (startedRun s) := by
  simp only [enterEngaged, makeOffer_eq]
  unfold startedRun
  simp only [← mapEntries_eq_map]
  rfl

section Blindness

variable (w : Surroundings)

@[simp] theorem within_mode (s : State) : (within w s).mode = s.mode := rfl
@[simp] theorem within_pendingDisengage (s : State) :
    (within w s).pendingDisengage = s.pendingDisengage := rfl
@[simp] theorem within_calendar (s : State) : (within w s).calendar = s.calendar := rfl
@[simp] theorem within_accounts (s : State) : (within w s).accounts = s.accounts := rfl
@[simp] theorem within_accountStats (s : State) : (within w s).accountStats = s.accountStats := rfl
@[simp] theorem within_windows (s : State) : (within w s).windows = s.windows := rfl
@[simp] theorem within_ports (s : State) : (within w s).ports = s.ports := rfl
@[simp] theorem within_portStats (s : State) : (within w s).portStats = s.portStats := rfl
@[simp] theorem within_fenceLimit (s : State) : (within w s).fenceLimit = s.fenceLimit := rfl
@[simp] theorem within_pointer (s : State) : (within w s).pointer = s.pointer := rfl
@[simp] theorem within_offer (s : State) : (within w s).offer = s.offer := rfl
@[simp] theorem within_memory (s : State) : (within w s).memory = s.memory := rfl
@[simp] theorem within_events (s : State) : (within w s).events = s.events := rfl

/-- A choice between two operations, on a condition that the surroundings leave as it is. -/
theorem within_ite {c : Prop} [Decidable c] {x y x' y' : State} (hx : x' = within w x) (hy : y' = within w y) :
    (if c then x' else y') = within w (if c then x else y) := by
  split
  · exact hx
  · exact hy

/-! ### The named updates -/

theorem within_setIssue (s : State) (l : List Entry) :
    setIssue (within w s) l = within w (setIssue s l) := rfl
theorem within_report (s : State) (r : Report) : report (within w s) r = within w (report s r) := rfl
theorem within_reportMode (s : State) : reportMode (within w s) = within w (reportMode s) := rfl

/-! ### Answers and the selector -/

/-- Answers are sent after those sent before. -/
theorem within_answerFront (s : State) (p : Port) :
    answerFront (within w s) p = within w (answerFront s p) := by
  have ha : ∀ l : List Answer,
      (Vector.ofFn fun q : Port => w.answers[q] ++ s.outputs.answers[q]).set p
          ((Vector.ofFn fun q : Port => w.answers[q] ++ s.outputs.answers[q])[p] ++ l)
        = Vector.ofFn fun q : Port =>
            w.answers[q] ++ (s.outputs.answers.set p (s.outputs.answers[p] ++ l))[q] := by
    intro l
    ext i hi : 1
    by_cases h : p.val = i
    · simp [h]
    · simp [Vector.getElem_set, h]
  rw [answerFront_eq, answerFront_eq]
  simp only [answered, within, ha]
  rfl

theorem within_makeOffer (s : State) : makeOffer (within w s) = within w (makeOffer s) := by
  rw [makeOffer_eq, makeOffer_eq]
  rfl

theorem within_rejudge (s : State) : rejudge (within w s) = within w (rejudge s) := by
  unfold rejudge
  rw [← within_makeOffer]
  congr 1
  rw [within_offer]
  cases s.offer with
  | none => rfl
  | some o => exact within_ite w (c := groundsHold s o = true) rfl rfl

/-! ### Acceptance -/

theorem within_refuseWithStrike (s : State) (p : Port) (t : Txn) (st : Status) (i : Option WindowIx) (r : Report) :
    refuseWithStrike (within w s) p t st i r = within w (refuseWithStrike s p t st i r) :=
  within_ite w rfl rfl

theorem within_decideByWindows (s : State) (p : Port) (t : Txn) :
    decideByWindows (within w s) p t = within w (decideByWindows s p t) := by
  unfold decideByWindows
  rw [within_windows]
  cases classify s.windows[p] t with
  | miss => exact within_refuseWithStrike ..
  | denied i => exact within_refuseWithStrike ..
  | admitted i a => rfl

theorem within_acceptSteps (s : State) (p : Port) (t : Txn) :
    acceptSteps (within w s) p t = within w (acceptSteps s p t) := by
  unfold acceptSteps
  refine within_ite w ?halted (within_ite w ?fenced ?_)
  case halted => rfl
  case fenced => rfl
  refine within_ite w ?malformed ?sound
  case malformed => exact within_ite w (within_refuseWithStrike ..) rfl
  case sound => exact within_ite w (within_decideByWindows ..) rfl

theorem within_accept (s : State) (p : Port) (t : Txn) : accept (within w s) p t = within w (accept s p t) := by
  simp only [accept, within_acceptSteps, within_answerFront, within_makeOffer]

theorem within_takeHeld (s : State) (p : Port) : takeHeld (within w s) p = within w (takeHeld s p) := by
  unfold takeHeld
  rw [within_ports]
  cases s.ports[p].arrival with
  | none => rfl
  | some t =>
    exact within_ite w (c := holdsOff s.mode s.ports[p] = true) (x := s) rfl
      (within_accept w (setArrival s p none) p t)

/-! ### Runs over lists, and what comes about before a command -/

theorem within_foldl {β : Type} {f : State → β → State} (h : ∀ s b, f (within w s) b = within w (f s b))
    (l : List β) (s : State) : l.foldl f (within w s) = within w (l.foldl f s) := by
  induction l generalizing s with
  | nil => rfl
  | cons b l ih => rw [List.foldl_cons, h, ih, List.foldl_cons]

theorem within_answerAll (s : State) : answerAll (within w s) = within w (answerAll s) := by
  have h := within_foldl w (within_answerFront w)
    ((allPorts.filter fun p => !aboutToQuiesce s p)
      ++ arrange (Config.quiescedOrder s.choices) (allPorts.filter (aboutToQuiesce s))) s
  exact congrArg (fun u : State => { u with choices := s.choices + 1 }) h

theorem within_enterHalted (s : State) : enterHalted (within w s) = within w (enterHalted s) := by
  rw [enterHalted_eq, enterHalted_eq, ← within_reportMode, ← within_answerAll]
  rfl

theorem within_settleRecord (s : State) (e : Entry) (f : Record → Record) :
    settleRecord (within w s) e f = within w (settleRecord s e f) := by
  unfold settleRecord
  cases e.record <;> rfl

theorem within_timeOut (s : State) : timeOut (within w s) = within w (timeOut s) := by
  unfold timeOut
  rw [within_memory]
  cases s.memory.issue.find? timeoutDue with
  | none => rfl
  | some e =>
    dsimp only
    rw [within_setIssue, within_settleRecord, within_report]
    refine within_ite w ?_ ?_
    · exact within_enterHalted ..
    · rw [within_answerFront]
      exact within_makeOffer ..

theorem within_enterEngaged (s : State) : enterEngaged (within w s) = within w (enterEngaged s) := by
  rw [enterEngaged_eq, enterEngaged_eq]
  rfl

theorem within_timeOutAll (n : Nat) (s : State) : timeOutAll n (within w s) = within w (timeOutAll n s) := by
  induction n generalizing s with
  | zero => rfl
  | succ n ih => rw [timeOutAll, within_timeOut, ih, timeOutAll]

theorem within_settle (s : State) : settle (within w s) = within w (settle s) := by
  rw [settle_eq, settle_eq, within_memory, within_timeOutAll, ← within_foldl w (within_takeHeld w)]
  congr 1
  exact within_ite w (within_enterEngaged ..) rfl

/-! ### The commands of the bus -/

theorem within_expireSlot (s : State) : expireSlot (within w s) = within w (expireSlot s) := by
  rw [expireSlot, makeOffer_eq, expireSlot, makeOffer_eq]
  rfl

theorem within_takeDisengage (s : State) : takeDisengage (within w s) = within w (takeDisengage s) := by
  dsimp only [takeDisengage]
  rw [within_calendar]
  cases s.calendar.pendingSwitch <;> rfl

theorem within_boundary (s : State) : boundary (within w s) = within w (boundary s) := by
  simp only [boundary]
  rw [← within_makeOffer]
  congr 1
  exact within_ite w (within_takeDisengage w (boundaryCommon s)) (within_ite w rfl rfl)

theorem within_tickCalendar (s : State) : tickCalendar (within w s) = within w (tickCalendar s) := by
  have he : expire (within w s) = within w (expire s) :=
    within_ite w (within_expireSlot ..) (within_boundary ..)
  exact within_ite w he (within_ite w rfl rfl)

theorem within_tickBoth (s : State) : tickBoth (within w s) = within w (tickBoth s) :=
  within_ite w (within_tickCalendar w (setIssue s (s.memory.issue.map countTick))) rfl

theorem within_present (s : State) (p : Port) (t : Txn) :
    present p t (within w s) = within w (present p t s) :=
  within_ite w rfl (within_ite w rfl (within_accept ..))

theorem within_chargeOne (s : State) (a : AccountIx) (beats : Nat) :
    chargeOne beats (within w s) a = within w (chargeOne beats s a) := by
  dsimp only [chargeOne]
  exact within_ite w rfl rfl

theorem within_charge (s : State) (a : AccountIx) (beats : Nat) :
    charge (within w s) a beats = within w (charge s a beats) :=
  within_foldl w (fun s a => within_chargeOne w s a beats) _ s

theorem within_chargeTake (s : State) (o : Offer) (r : Record) :
    chargeTake (within w s) o r = within w (chargeTake s o r) := by
  unfold chargeTake
  cases r.account with
  | none => rfl
  | some a => exact within_ite w (c := chargedGrounds o.grounds = true) (within_charge ..) rfl

theorem within_forward (hw : ∀ t, w.forwarded (some t) = some t) (s : State) (t : Txn) :
    setOutputs (within w s) { (within w s).outputs with forwarded := some t }
      = within w (setOutputs s { s.outputs with forwarded := some t }) := by
  simp only [setOutputs, within, hw]

theorem within_issue (hw : ∀ t, w.forwarded (some t) = some t) (s : State) (o : Offer) (r : Record) :
    issue (within w s) o r = within w (issue s o r) := by
  have h := within_forward w hw
    (setIssue (changeIn (setOffer s none) o.port o.serial (issueRecord s o)) (s.memory.issue ++ [entryOf s o r]))
    r.txn
  simp only [issue]
  rw [← within_makeOffer, ← within_chargeTake]
  congr 2
  exact within_ite w (congrArg (fun u : State => { countPort u o.port (countBeats o.grounds r.txn.beats) with
    pointer := o.port + 1 }) h) (congrArg (countPort · o.port (countBeats o.grounds r.txn.beats)) h)

/-- A take forwards a transaction, and reads and leaves the rest of the surroundings like any other command. -/
theorem within_takeOffer (hw : ∀ t, w.forwarded (some t) = some t) (s : State) :
    takeOffer (within w s) = within w (takeOffer s) := by
  unfold takeOffer
  rw [within_offer]
  cases s.offer with
  | none => rfl
  | some o =>
    dsimp only
    rw [show findRecord (within w s) o.port o.serial = findRecord s o.port o.serial from rfl]
    cases findRecord s o.port o.serial with
    | none => rfl
    | some r =>
      exact within_issue w hw s o r

theorem within_noteCompletion (c : Completion) (p : Port) (r : Option Record) (s : State) :
    noteCompletion c p r (within w s) = within w (noteCompletion c p r s) := by
  unfold noteCompletion
  cases c with
  | good data => exact within_ite w rfl rfl
  | fault => rfl

theorem within_complete (c : Completion) (s : State) : complete c (within w s) = within w (complete c s) := by
  unfold complete
  rw [within_memory]
  cases s.memory.issue with
  | nil => rfl
  | cons e rest =>
    dsimp only
    unfold completeEntry
    cases e.state with
    | abandoned =>
      exact within_makeOffer w (report (setIssue s rest)
        { kind := .lateCompletion, port := some e.port, detail := some (completionCode c) })
    | waiting =>
      dsimp only
      rw [within_setIssue, within_settleRecord, within_noteCompletion, within_answerFront, within_makeOffer]
      rfl

/-! ### The commands of the service link -/

theorem placed_ite {c : Prop} [Decidable c] {x y x' y' : Reply} (hx : x' = x.placed w) (hy : y' = y.placed w) :
    (if c then x' else y') = (if c then x else y).placed w := by
  split
  · exact hx
  · exact hy

theorem placed_checked {α : Type} {o : Option α} {s : State} {judge' judge : α → Reply}
    (h : ∀ x, judge' x = (judge x).placed w) :
    checked o (within w s) judge' = (checked o s judge).placed w := by
  cases o with
  | none => rfl
  | some x => exact h x

theorem placed_writeBank (s : State) (b : BankIx) (n : Nat) (entries : Vector SlotEntry 32) :
    writeBank (within w s) b n entries = (writeBank s b n entries).placed w := by
  unfold writeBank
  rw [show bankWriteRefusal (within w s) b = bankWriteRefusal s b from rfl]
  cases bankWriteRefusal s b <;> rfl

theorem placed_requestSwitch (s : State) (signature : Half) :
    requestSwitch signature (within w s) = (requestSwitch signature s).placed w :=
  placed_ite w rfl (placed_ite w rfl (placed_ite w rfl (placed_ite w rfl rfl)))

theorem placed_describeAccount (s : State) (a : AccountIx) (preload period : Nat) (parent : Option AccountIx)
    (exhaust : ExhaustMode) :
    describeAccount a preload period parent exhaust (within w s)
      = (describeAccount a preload period parent exhaust s).placed w :=
  placed_ite w rfl (congrArg (Reply.mk · .done _) (within_rejudge w (setAccount s a _)))

theorem placed_refillAtOnce (s : State) (a : AccountIx) :
    refillAtOnce a (within w s) = (refillAtOnce a s).placed w :=
  placed_ite w rfl (congrArg (Reply.mk · .done _) (within_rejudge w (setAccount s a (refill s.accounts[a]))))

theorem placed_requestEngage (s : State) (b : BankIx) (signature : Half) :
    requestEngage b signature (within w s) = (requestEngage b signature s).placed w := by
  have hs : startEngaging b (within w s) = within w (startEngaging b s) :=
    within_ite w (within_enterEngaged w (enterMode (setCalendar s { s.calendar with active := b }) .engaging)) rfl
  exact placed_ite w rfl (placed_ite w rfl (placed_ite w rfl
    (congrArg (fun u : State => (⟨u, .accepted, [modeCode u.mode, byteOf u.calendar.active.val]⟩ : Reply)) hs)))

theorem placed_requestDisengage (s : State) :
    requestDisengage (within w s) = (requestDisengage s).placed w := by
  unfold requestDisengage
  rw [within_mode]
  cases s.mode with
  | engaged => exact placed_ite w rfl rfl
  | engaging =>
    exact congrArg (fun u : State => (⟨u, .done, disengageResult u⟩ : Reply))
      (within_makeOffer w (enterMode s .pass))
  | pass => rfl
  | halted => rfl

theorem placed_requestHalt (s : State) : requestHalt (within w s) = (requestHalt s).placed w :=
  placed_ite w rfl (congrArg (Reply.mk · .done _) (within_enterHalted w s))

theorem placed_requestRestart (s : State) : requestRestart (within w s) = (requestRestart s).placed w :=
  placed_ite w rfl (congrArg (Reply.mk · .done _) (within_makeOffer w (enterMode (setCalendar s _) .pass)))

theorem placed_quiescePort (s : State) (p : Port) (flush : Bool) :
    quiescePort p flush (within w s) = (quiescePort p flush s).placed w := by
  have hf : ∀ u : State, flushPort p (within w u) = within w (flushPort p u) := fun u => within_ite w rfl rfl
  have hq : ∀ u : State,
      makeOffer (answerFront (if flush then flushPort p (within w u) else within w u) p)
        = within w (makeOffer (answerFront (if flush then flushPort p u else u) p)) := by
    intro u
    rw [← within_makeOffer, ← within_answerFront, within_ite w (hf u) rfl]
  have hr := congrArg (fun u : State =>
    (⟨u, .accepted, [portStateCode u.ports[p].state, byteOf u.ports[p].queue.length]⟩ : Reply))
    (hq (setPortState s p .quiescing))
  unfold quiescePort
  rw [within_ports]
  cases s.ports[p].state with
  | active => exact hr
  | quiescing => rfl
  | quiesced => rfl
  | fenced => exact hr

theorem placed_resumePort (s : State) (p : Port) : resumePort p (within w s) = (resumePort p s).placed w := by
  unfold resumePort
  rw [within_ports]
  cases s.ports[p].state <;> rfl

theorem placed_judgeDepth (s : State) (n : Nat) : judgeDepth n (within w s) = (judgeDepth n s).placed w :=
  placed_ite w rfl (placed_ite w rfl rfl)

theorem placed_discard (s : State) : discard (within w s) = (discard s).placed w :=
  congrArg (Reply.mk · .done _) (within_makeOffer w (setIssue s (s.memory.issue.filter waitsForCompletion)))

theorem placed_readOldest (s : State) : readOldest (within w s) = (readOldest s).placed w := by
  unfold readOldest
  rw [within_events]
  cases s.events.queue <;> rfl

theorem placed_acknowledge (s : State) (sequence : Half) :
    acknowledge sequence (within w s) = (acknowledge sequence s).placed w := by
  unfold acknowledge
  rw [within_events]
  cases s.events.queue with
  | nil => rfl
  | cons e rest => exact placed_ite w rfl rfl

theorem placed_readStatistics (s : State) (o : StatsObject) (clear : Bool) :
    readStatistics o clear (within w s) = (readStatistics o clear s).placed w := by
  cases o <;> cases clear <;> rfl

end Blindness

end Sys2Proof.Machine
end

section
/-! SUPPORT. What comes about before a command: settling ends with nothing due, the rows of the occurrences are its
parts, and a command acts on what it leaves. -/

namespace Sys2Proof.Machine

/-! ### The operations of the blocks do not read their surroundings -/

theorem blind_settle : Blind settle := fun w s => within_settle w s

/-- Where a transfer is opened, the link and what LDO shows are surroundings of the blocks. -/
def opening (s : State) : Surroundings where
  pending := s.pending
  inReset := s.inReset
  link := if s.link.shifting.isSome then s.link else ⟨true, s.link.held, none, firstShown s.link.held⟩
  presented := if s.link.shifting.isSome then none else s.link.held.map (ldoBit · 0)
  ldo := []
  answers := Vector.replicate 4 []
  forwarded := id

theorem openTransfer_begin (s : State) : openTransfer (begin s) = within (opening s) (begin s) := by
  have ha : (Vector.ofFn fun p : Port =>
      (Vector.replicate 4 ([] : List Answer))[p] ++ (Vector.replicate 4 ([] : List Answer))[p])
      = Vector.replicate 4 [] := by
    ext i hi
    simp
  by_cases h : s.link.shifting.isSome = true
  · rw [openTransfer_eq, if_pos (c := (begin s).link.shifting.isSome = true) h]
    simp only [within, opening, begin_outputs, Outputs.silent, ha, id, if_pos h]
    rfl
  · rw [openTransfer_eq, if_neg (c := (begin s).link.shifting.isSome = true) h]
    simp only [within, opening, begin_outputs, Outputs.silent, ha, id, if_neg h]
    rfl

/-- A command on an open link: what is due comes about, the block judges, and the transfer closes. -/
theorem serve_open (code tag : Byte) {s : State} {act : State → Reply} (hb : BlindReply act)
    (h : linkOpen s = true) :
    serve code tag s act =
      closeTransfer (within (opening s) (act (settle (begin s))).after) 192
        ⟨(act (settle (begin s))).status, tag, code, padResult (act (settle (begin s))).result⟩ := by
  unfold serve
  rw [if_pos h]
  simp only [openTransfer_begin, within_settle, hb (opening s)]
  rfl

theorem BlindReply.after {act : State → Reply} (hb : BlindReply act) : Blind fun s => (act s).after :=
  fun w s => congrArg Reply.after (hb w s)

/-- A block's answer that sends nothing to a master and forwards nothing (R147, R149). -/
theorem serve_reply {code tag : Byte} {s t : State} {act : State → Reply} {st : LinkStatus} {res : List Byte}
    (h : Ready s) (hb : BlindReply act) (e : act (begin s) = ⟨begin t, st, res⟩) :
    serve code tag s act = afterTransfer s.link t (response st tag code res) := by
  have hc := congrArg State.outputs (closeTransfer_openTransfer s 192 (response st tag code res))
  obtain ⟨hp, hr, -⟩ := hb.after.forwarding.frame (begin s)
  have hs : settle (begin s) = begin s := settle_of_settled (begin s) h.2
  rw [openTransfer_begin] at hc
  rw [serve_open code tag hb h.1, hs]
  rw [e] at hp hr ⊢
  calc closeTransfer (within (opening s) (begin t)) 192 (response st tag code res)
      = { t with
          pending := (begin s).pending
          inReset := (begin s).inReset
          link := closedLink (response st tag code res)
          outputs := (closeTransfer (within (opening s) (begin s)) 192 (response st tag code res)).outputs } := rfl
    _ = afterTransfer s.link t (response st tag code res) := by
      rw [hc, ← hp, ← hr]
      rfl

/-! ### Settling leaves nothing due -/

@[simp] theorem memory_makeOffer (s : State) : (makeOffer s).memory = s.memory := by
  rw [makeOffer_eq]
  rfl

@[simp] theorem memory_answerFront (s : State) (p : Port) : (answerFront s p).memory = s.memory := by
  rw [answerFront_eq]
  rfl

@[simp] theorem memory_settleRecord (s : State) (e : Entry) (f : Record → Record) :
    (settleRecord s e f).memory = s.memory := by
  unfold settleRecord
  split <;> rfl

@[simp] theorem memory_enterHalted (s : State) : (enterHalted s).memory = s.memory := by
  rw [enterHalted_eq, reportMode, report_memory, answerAll_eq]
  exact foldl_keeps State.memory answerFront memory_answerFront _ (settledByHalt s)

/-- A timeout abandons the oldest due entry, and changes the memory side in no other way. -/
theorem memory_timeOut (s : State) :
    (timeOut s).memory = { s.memory with issue := abandonFirst s.memory.issue } := by
  unfold timeOut
  split
  · next h =>
    rw [abandonFirst_of_none_due _ (by simpa [List.find?_eq_none] using h)]
  · split_ifs <;> simp

/-- One entry fewer is due once the oldest due entry is abandoned. -/
theorem countP_abandonFirst (l : List Entry) : (abandonFirst l).countP timeoutDue = l.countP timeoutDue - 1 := by
  induction l with
  | nil => rfl
  | cons e es ih =>
    unfold abandonFirst
    split_ifs with h
    · have hn : timeoutDue { e with state := .abandoned, record := none } = false := rfl
      simp [h, hn]
    · simp [h, ih]

theorem countP_timeOutAll (n : Nat) (s : State) :
    (timeOutAll n s).memory.issue.countP timeoutDue = s.memory.issue.countP timeoutDue - n := by
  induction n generalizing s with
  | zero => rfl
  | succ n ih =>
    rw [timeOutAll, ih, memory_timeOut, countP_abandonFirst]
    omega

/-- As many timeouts as there are entries leave none due. -/
theorem none_due_timeOutAll (s : State) :
    (timeOutAll s.memory.issue.length s).memory.issue.all (fun e => !timeoutDue e) = true := by
  have h := countP_timeOutAll s.memory.issue.length s
  rw [Nat.sub_eq_zero_of_le List.countP_le_length, List.countP_eq_zero] at h
  simpa using h

/-- `s'` differs from `s` by what an acceptance at port `p` may do: the memory side, the arrival that the port holds
off, the mode and the other ports are as they were. -/
structure ActsAt (p : Port) (s s' : State) : Prop where
  memory : s'.memory = s.memory
  mode : s'.mode = s.mode
  arrival : s'.ports[p].arrival = s.ports[p].arrival
  others : ∀ q : Port, q ≠ p → s'.ports[q] = s.ports[q]

theorem ActsAt.refl (p : Port) (s : State) : ActsAt p s s := ⟨rfl, rfl, rfl, fun _ _ => rfl⟩

theorem ActsAt.trans {p : Port} {s s' s'' : State} (h : ActsAt p s s') (h' : ActsAt p s' s'') : ActsAt p s s'' :=
  ⟨h'.memory.trans h.memory, h'.mode.trans h.mode, h'.arrival.trans h.arrival,
    fun q hq => (h'.others q hq).trans (h.others q hq)⟩

theorem actsAt_setPort (s : State) (p : Port) (u : PortUnit) (h : u.arrival = s.ports[p].arrival) :
    ActsAt p s (setPort s p u) :=
  ⟨rfl, rfl, by simpa using h, fun q hq => by simp [set_get, hq.symm]⟩

theorem actsAt_setPortState (s : State) (p : Port) (st : PortState) : ActsAt p s (setPortState s p st) :=
  actsAt_setPort s p { s.ports[p] with state := st } rfl

theorem actsAt_report (s : State) (p : Port) (r : Report) : ActsAt p s (report s r) :=
  ⟨rfl, rfl, rfl, fun _ _ => rfl⟩

theorem actsAt_appendRecord (s : State) (p : Port) (t : Txn) (st : RecordState) (a : Option AccountIx)
    (w : Option WindowIx) : ActsAt p s (appendRecord s p t st a w) :=
  (actsAt_setPort s p { s.ports[p] with queue := s.ports[p].queue ++ [⟨s.serial, t, a, w, st, none, none, none⟩] }
    rfl).trans ⟨rfl, rfl, rfl, fun _ _ => rfl⟩

theorem actsAt_appendRefused (s : State) (p : Port) (t : Txn) (st : Status) (w : Option WindowIx) :
    ActsAt p s (appendRefused s p t st w) :=
  (actsAt_appendRecord s p t (.refused st) none w).trans ⟨rfl, rfl, rfl, fun _ _ => rfl⟩

theorem actsAt_strike (s : State) (p : Port) : ActsAt p s (strike s p) := by
  refine (actsAt_setPort s p { s.ports[p] with strikes := min (s.ports[p].strikes + 1) Config.strikeCeiling }
    rfl).trans ?_
  simp only [strike, fenceTest]
  split_ifs
  · exact (actsAt_setPortState ..).trans (actsAt_report ..)
  · exact ActsAt.refl ..

theorem actsAt_refuseWithStrike (s : State) (p : Port) (t : Txn) (st : Status) (w : Option WindowIx) (r : Report) :
    ActsAt p s (refuseWithStrike s p t st w r) :=
  ((actsAt_appendRefused s p t st w).trans (actsAt_report ..)).trans (actsAt_strike ..)

theorem actsAt_acceptSteps (s : State) (p : Port) (t : Txn) : ActsAt p s (acceptSteps s p t) := by
  have hw : ActsAt p s (decideByWindows s p t) := by
    unfold decideByWindows
    split
    · exact actsAt_refuseWithStrike ..
    · exact actsAt_refuseWithStrike ..
    · exact actsAt_appendRecord ..
  unfold acceptSteps
  split_ifs
  · exact actsAt_appendRefused ..
  · exact actsAt_appendRefused ..
  · exact actsAt_refuseWithStrike ..
  · exact actsAt_appendRefused ..
  · exact hw
  · exact actsAt_appendRecord ..

theorem actsAt_answerFront (s : State) (p : Port) : ActsAt p s (answerFront s p) := by
  have hm := (regime_eq_iff.mp (regime_answerFront s p)).1
  refine ⟨memory_answerFront s p, hm, ?_, fun q hq => answerFront_other s p q hq.symm⟩
  rw [answerFront_eq]
  simp [answered]

theorem actsAt_makeOffer (s : State) (p : Port) : ActsAt p s (makeOffer s) := by
  rw [makeOffer_eq]
  exact ⟨rfl, rfl, rfl, fun _ _ => rfl⟩

theorem actsAt_accept (s : State) (p : Port) (t : Txn) : ActsAt p s (accept s p t) :=
  ((actsAt_acceptSteps s p t).trans (actsAt_answerFront ..)).trans (actsAt_makeOffer ..)

theorem heldDue_congr {s s' : State} {q : Port} (hm : s'.mode = s.mode) (hq : s'.ports[q] = s.ports[q]) :
    heldDue s' q = heldDue s q := by
  simp only [heldDue, hm, hq]

/-- Taking a held arrival, where it is due: it empties the port's arrival, and the other ports, the mode and the memory
side are as they were. -/
theorem takeHeld_cases (s : State) (p : Port) :
    (heldDue s p = false ∧ takeHeld s p = s) ∨
    (heldDue s p = true ∧ s.mode ≠ .engaging ∧ (takeHeld s p).ports[p].arrival = none
      ∧ (takeHeld s p).memory = s.memory ∧ (takeHeld s p).mode = s.mode
      ∧ ∀ q : Port, q ≠ p → (takeHeld s p).ports[q] = s.ports[q]) := by
  by_cases h : heldDue s p = true
  · obtain ⟨ha, -, -, -, hm⟩ := (heldDue_iff s p).mp h
    obtain ⟨t, ht⟩ := Option.ne_none_iff_exists'.mp ha
    have hf : holdsOff s.mode s.ports[p] = false := by
      simp only [heldDue, Bool.and_eq_true, Bool.not_eq_true'] at h
      exact h.2
    have e : takeHeld s p = accept (setArrival s p none) p t := by
      simp only [takeHeld, ht, hf]
      rfl
    obtain ⟨am, amode, aarr, aoth⟩ := actsAt_accept (setArrival s p none) p t
    refine .inr ⟨h, hm, ?_, ?_, ?_, fun q hq => ?_⟩ <;> rw [e]
    · simpa using aarr
    · exact am
    · exact amode
    · rw [aoth q hq]
      simp [set_get, hq.symm]
  · have h' := Bool.eq_false_iff.mpr h
    exact .inl ⟨h', takeHeld_of_not_due s p h'⟩

@[simp] theorem memory_takeHeld (s : State) (p : Port) : (takeHeld s p).memory = s.memory := by
  rcases takeHeld_cases s p with ⟨_, e⟩ | ⟨_, _, _, hm, _⟩
  · rw [e]
  · exact hm

theorem drainDue_takeHeld (s : State) (p : Port) : drainDue (takeHeld s p) = drainDue s := by
  rcases takeHeld_cases s p with ⟨_, e⟩ | ⟨_, hne, _, _, hm, _⟩
  · rw [e]
  · rw [drainDue, drainDue, hm, beq_false_of_ne hne, Bool.false_and, Bool.false_and]

/-- Once a port's arrival is taken nothing is held due there, and elsewhere what is due is as it was. -/
theorem heldDue_takeHeld (s : State) (p q : Port) :
    heldDue (takeHeld s p) q = (heldDue s q && decide (q ≠ p)) := by
  rcases takeHeld_cases s p with ⟨hd, e⟩ | ⟨_, _, ha, _, hm, ho⟩
  · rw [e]
    by_cases hq : q = p
    · simp [hq, hd]
    · simp [hq]
  · by_cases hq : q = p
    · subst hq
      rw [heldDue, ha]
      simp
    · simp [heldDue_congr hm (ho q hq), hq]

theorem heldDue_foldl (l : List Port) (s : State) (q : Port) :
    heldDue (l.foldl takeHeld s) q = (heldDue s q && decide (q ∉ l)) := by
  induction l generalizing s with
  | nil => simp
  | cons p l ih =>
    rw [List.foldl_cons, ih, heldDue_takeHeld, Bool.and_assoc]
    simp [not_or]

/-- Whatever was due, nothing is due once it has come about. -/
theorem settled_settle (s : State) : settled (settle s) = true := by
  have ht := none_due_timeOutAll s
  rw [settle_eq]
  generalize timeOutAll s.memory.issue.length s = u at ht
  have hm : ∀ v : State, (allPorts.foldl takeHeld v).memory = v.memory :=
    foldl_keeps State.memory takeHeld memory_takeHeld allPorts
  have hd : ∀ v : State, drainDue (allPorts.foldl takeHeld v) = drainDue v :=
    foldl_keeps drainDue takeHeld drainDue_takeHeld allPorts
  have hh : ∀ v : State, (allPorts.all fun p => !heldDue (allPorts.foldl takeHeld v) p) = true := by
    intro v
    simp only [heldDue_foldl, List.all_eq_true]
    intro p hp
    simp [hp]
  rw [settled, hh, hm, hd]
  split_ifs with hdue
  · rw [enterEngaged_eq]
    simp only [Bool.and_true, Bool.and_eq_true]
    exact ⟨ht, rfl⟩
  · simp only [ht, hdue]
    rfl

/-! ### The rows of the occurrences are the parts of settling -/

theorem timeOutAll_succ (n : Nat) (s : State) : timeOutAll (n + 1) s = timeOut (timeOutAll n s) := by
  induction n generalizing s with
  | zero => rfl
  | succ n ih => rw [timeOutAll, ih, timeOutAll]

/-- A timeout that comes about by itself is the first of those that settling brings about. -/
theorem settle_timeOut (s : State) : settle (timeOut s) = settle s := by
  have hl : (timeOut s).memory.issue.length = s.memory.issue.length := by
    rw [memory_timeOut, abandonFirst_length]
  have ht : timeOutAll s.memory.issue.length (timeOut s) = timeOutAll s.memory.issue.length s := by
    rw [← timeOutAll, timeOutAll_succ, timeOut_of_none_due _ (none_due_timeOutAll s)]
  rw [settle_eq, settle_eq, hl, ht]

/-- The end of the drain that comes about by itself is the one that settling brings about. -/
theorem settle_enterEngaged {s : State} (ht : s.memory.issue.all (fun e => !timeoutDue e) = true)
    (hd : drainDue s = true) : settle (enterEngaged s) = settle s := by
  have hm : (enterEngaged s).memory = s.memory := by
    rw [enterEngaged_eq]
    rfl
  have hn : drainDue (enterEngaged s) = false := by
    rw [enterEngaged_eq]
    rfl
  rw [settle_eq, settle_eq, timeOutAll_of_none_due _ s ht, timeOutAll_of_none_due _ _ (hm ▸ ht), if_pos hd, hn]
  rfl

/-- A held arrival that is taken by itself, with no port before it that could take one, is the first that settling
takes. -/
theorem settle_takeHeld {s : State} {p : Port} (ht : s.memory.issue.all (fun e => !timeoutDue e) = true)
    (hd : drainDue s = false) (hb : ∀ q : Port, q.val < p.val → heldDue s q = false) :
    settle (takeHeld s p) = settle s := by
  have hskip : ∀ q : Port, q.val < p.val → takeHeld (takeHeld s p) q = takeHeld s p ∧ takeHeld s q = s := by
    intro q hq
    refine ⟨takeHeld_of_not_due _ q ?_, takeHeld_of_not_due s q (hb q hq)⟩
    rw [heldDue_takeHeld, hb q hq, Bool.false_and]
  have hself : takeHeld (takeHeld s p) p = takeHeld s p :=
    takeHeld_of_not_due _ p (by simp [heldDue_takeHeld])
  have hf : allPorts.foldl takeHeld (takeHeld s p) = allPorts.foldl takeHeld s := by
    fin_cases p <;> simp_all [allPorts]
  rw [settle_eq, settle_eq, timeOutAll_of_none_due _ s ht,
    timeOutAll_of_none_due _ _ ((memory_takeHeld s p).symm ▸ ht), drainDue_takeHeld, hd]
  exact hf

/-! ### Every bus and service command acts on what settling gives -/

/-- The surroundings that put the answers of `u` before those of a command that begins where `u` ends. -/
def sentBefore (u : State) : Surroundings := ⟨u.pending, u.inReset, u.link, none, [], u.outputs.answers, id⟩

theorem within_sentBefore (u t : State) (hp : t.pending = u.pending) (hr : t.inReset = u.inReset)
    (hl : t.link = u.link) (hs : t.outputs.presented = none) (hd : t.outputs.ldo = []) :
    within (sentBefore u) t = withAnswersBefore u t := by
  simp only [within, sentBefore, withAnswersBefore, ← hp, ← hr, ← hl, ← hs, ← hd]
  rfl

theorem within_sentBefore_begin (u : State) (hf : u.outputs.forwarded = none) (hs : u.outputs.presented = none)
    (hd : u.outputs.ldo = []) : within (sentBefore u) (begin u) = u := by
  have ha : (Vector.ofFn fun p : Port => u.outputs.answers[p] ++ (Vector.replicate 4 ([] : List Answer))[p])
      = u.outputs.answers := by
    ext i hi
    simp
  simp only [within, sentBefore, begin_outputs, Outputs.silent, ha, id, ← hf, ← hs, ← hd]
  rfl

/-- What settling leaves of the surroundings. -/
theorem settle_begin_frame (s : State) :
    (settle (begin s)).pending = s.pending ∧ (settle (begin s)).inReset = s.inReset
      ∧ (settle (begin s)).link = s.link
      ∧ within (sentBefore (settle (begin s))) (begin (settle (begin s))) = settle (begin s) := by
  obtain ⟨hp, hr, hl, hs, hd⟩ := blind_settle.forwarding.frame (begin s)
  exact ⟨hp, hr, hl, within_sentBefore_begin _ (blind_settle.forwarded (begin s)) hs hd⟩

theorem settle_begin_settle (s : State) : settle (begin (settle s)) = begin (settle s) :=
  settle_of_settled (begin (settle s)) ((settled_begin (settle s)).trans (settled_settle s))

theorem onBus_acts_on_settled (s : State) (hr : s.inReset = false) {act : State → State}
    (ha : BlindButForwarding act) :
    onBus s act = withAnswersBefore (settle (begin s)) (onBus (settle (begin s)) act) := by
  obtain ⟨-, hur, -, hu⟩ := settle_begin_frame s
  have hset := settle_begin_settle (begin s)
  unfold onBus
  rw [if_neg (by simp [hr]), if_neg (by simp [hur, hr]), hset]
  generalize settle (begin s) = u at hu
  obtain ⟨hp, hr, hl, hs, hd⟩ := ha.frame (begin u)
  rw [← within_sentBefore u _ hp hr hl hs hd, ← ha (sentBefore u) (begin u) fun _ => rfl, hu]

/-- Closing the transfer puts the answers sent before the command in front as they are. -/
theorem closeTransfer_sentBefore (s u t : State) (r : Response) :
    closeTransfer (within (opening s) (within (sentBefore u) t)) 192 r
      = withAnswersBefore u (closeTransfer (within (opening s) t) 192 r) := by
  have ha : (Vector.ofFn fun p : Port => (Vector.replicate 4 ([] : List Answer))[p]
        ++ (Vector.ofFn fun q : Port => u.outputs.answers[q] ++ t.outputs.answers[q])[p])
      = Vector.ofFn fun p : Port => u.outputs.answers[p]
        ++ (Vector.ofFn fun q : Port => (Vector.replicate 4 ([] : List Answer))[q] ++ t.outputs.answers[q])[p] := by
    ext i hi
    simp
  simp only [closeTransfer, setLink, setOutputs, within, opening, sentBefore, withAnswersBefore, ha, id]

theorem serve_acts_on_settled (code tag : Byte) (s : State) (hl : linkOpen s = true) {act : State → Reply}
    (hb : BlindReply act) :
    serve code tag s act = withAnswersBefore (settle (begin s)) (serve code tag (settle (begin s)) act) := by
  obtain ⟨hp, hr, hlink, hu⟩ := settle_begin_frame s
  have hset := settle_begin_settle (begin s)
  have ho : opening (settle (begin s)) = opening s := by
    simp only [opening, hp, hr, hlink]
  have hlu : linkOpen (settle (begin s)) = true := by
    simpa only [linkOpen, hr, hlink] using hl
  rw [serve_open code tag hb hl, serve_open code tag hb hlu, hset, ho]
  generalize settle (begin s) = u at hu
  have hact : act u = (act (begin u)).placed (sentBefore u) := by
    rw [← hb (sentBefore u) (begin u), hu]
  rw [hact]
  exact closeTransfer_sentBefore s u _ _

/-- The bus rows act on what settling gives. -/
theorem bus_acts_on_settled (s : State) (hr : s.inReset = false) (c : Instr) (hc : rowKind c = .bus) :
    ∃ t, exec c (settle (begin s)) = .next t
      ∧ exec c s = .next (withAnswersBefore (settle (begin s)) t) := by
  have h : ∀ {act : State → State}, BlindButForwarding act → ∃ t : State,
      (Host.Outcome.next (onBus (settle (begin s)) act) : Host.Outcome State Fault Refusal) = .next t
        ∧ (Host.Outcome.next (onBus s act) : Host.Outcome State Fault Refusal)
          = .next (withAnswersBefore (settle (begin s)) t) := fun ha =>
    ⟨_, rfl, congrArg _ (onBus_acts_on_settled s hr ha)⟩
  cases c with
  | tick => exact h fun w s _ => within_tickBoth w s
  | slotExpiry => exact h fun w s _ => within_ite w (within_tickBoth w s) rfl
  | frameBoundary => exact h fun w s _ => within_ite w (within_tickBoth w s) rfl
  | arrival p x => exact h fun w s _ => within_present w s p x
  | arrivalWithdraw p => exact h fun w s _ => rfl
  | take => exact h fun w s hw => within_takeOffer w hw s
  | completion r => exact h fun w s _ => within_complete w r s
  | _ => cases hc

/-- The rows of the service commands act on what settling gives. -/
theorem service_acts_on_settled (s : State) (hl : linkOpen s = true) (c : Instr) (hc : rowKind c = .service) :
    ∃ t, exec c (settle (begin s)) = .next t
      ∧ exec c s = .next (withAnswersBefore (settle (begin s)) t) := by
  have h : ∀ (code tag : Byte) {act : State → Reply}, BlindReply act → ∃ t : State,
      (Host.Outcome.next (serve code tag (settle (begin s)) act) : Host.Outcome State Fault Refusal) = .next t
        ∧ (Host.Outcome.next (serve code tag s act) : Host.Outcome State Fault Refusal)
          = .next (withAnswersBefore (settle (begin s)) t) := fun code tag _ hb =>
    ⟨_, rfl, congrArg _ (serve_acts_on_settled code tag s hl hb)⟩
  cases c with
  | readStatus tag => exact h _ _ fun w s => rfl
  | writeBankHeader tag bank slots =>
    exact h _ _ fun w s => placed_checked w fun b => placed_checked w fun n => placed_writeBank w s b n _
  | writeSlot tag bank index entry =>
    exact h _ _ fun w s => placed_checked w fun b => placed_checked w fun i => placed_checked w fun e =>
      placed_writeBank w s b _ _
  | readBank tag bank => exact h _ _ fun w s => placed_checked w fun b => rfl
  | readSlot tag bank index => exact h _ _ fun w s => placed_checked w fun b => placed_checked w fun i => rfl
  | switch tag signature => exact h _ _ fun w s => placed_requestSwitch w s signature
  | cancelSwitch tag => exact h _ _ fun w s => placed_ite w rfl rfl
  | writeWindow tag port window entry =>
    exact h _ _ fun w s => placed_checked w fun p => placed_checked w fun i => placed_checked w fun x => rfl
  | readWindow tag port window => exact h _ _ fun w s => placed_checked w fun p => placed_checked w fun i => rfl
  | writeAccount tag account preload period parent exhaust =>
    exact h _ _ fun w s => placed_checked w fun a => placed_checked w fun n => placed_checked w fun p =>
      placed_checked w fun x => placed_describeAccount w s a _ n p x
  | readAccount tag account => exact h _ _ fun w s => placed_checked w fun a => rfl
  | stageOverride tag account flag value =>
    exact h _ _ fun w s => placed_checked w fun a => placed_checked w fun f => rfl
  | clearOverride tag account => exact h _ _ fun w s => placed_checked w fun a => rfl
  | refillNow tag account => exact h _ _ fun w s => placed_checked w fun a => placed_refillAtOnce w s a
  | engage tag bank signature =>
    exact h _ _ fun w s => placed_checked w fun b => placed_requestEngage w s b signature
  | disengage tag => exact h _ _ placed_requestDisengage
  | halt tag => exact h _ _ placed_requestHalt
  | restart tag => exact h _ _ placed_requestRestart
  | quiesce tag port flush =>
    exact h _ _ fun w s => placed_checked w fun p => placed_checked w fun f => placed_quiescePort w s p f
  | resume tag port => exact h _ _ fun w s => placed_checked w fun p => placed_resumePort w s p
  | setTickDivider tag value => exact h _ _ fun w s => placed_checked w fun n => placed_ite w rfl rfl
  | setDepth tag value => exact h _ _ fun w s => placed_checked w fun n => placed_judgeDepth w s n
  | setTimeout tag value => exact h _ _ fun w s => placed_checked w fun n => rfl
  | setFaultAction tag value => exact h _ _ fun w s => placed_checked w fun x => rfl
  | setFenceLimit tag value => exact h _ _ fun w s => placed_checked w fun n => rfl
  | setAlertMask tag value => exact h _ _ fun w s => placed_checked w fun m => rfl
  | discardAbandoned tag => exact h _ _ placed_discard
  | readEvent tag => exact h _ _ placed_readOldest
  | ackEvent tag sequence => exact h _ _ fun w s => placed_acknowledge w s sequence
  | readStats tag object clear =>
    exact h _ _ fun w s => placed_checked w fun o => placed_checked w fun f => placed_readStatistics w s o f
  | _ => cases hc

theorem none_due_iff (s : State) :
    s.memory.issue.all (fun e => !timeoutDue e) = true ↔ ∀ e ∈ s.memory.issue, ¬ AtLimit e := by
  simp [← timeoutDue_iff]

theorem drainDue_iff (s : State) : drainDue s = true ↔ s.mode = .engaging ∧ DrainComplete s := by
  rw [drainDue, Bool.and_eq_true, beq_iff_eq, drained_iff]

theorem any_due_iff (s : State) : s.memory.issue.any timeoutDue = true ↔ ∃ e ∈ s.memory.issue, AtLimit e := by
  simp [← timeoutDue_iff]

/-- Settles O9: nothing is due once settled, commands do not read what settling sent, and each row of an occurrence is
the next part of settling. -/
theorem whatIsDueComesAboutBeforeACommandActs : Obligations.WhatIsDueComesAboutBeforeACommandActs := by
  unfold Obligations.WhatIsDueComesAboutBeforeACommandActs
  intro s hr
  change NothingDue (settle (begin s)) ∧ _
  refine ⟨(settled_iff _).mp (settled_settle _), ?_, ?_, ?_, ?_, ?_⟩
  · rintro c (hc | ⟨hc, hl⟩)
    · exact bus_acts_on_settled s hr c hc
    · exact service_acts_on_settled s hl c hc
  · intro hdue
    exact ⟨timeOut (begin s), congrArg _ (whenDue_due s _ _ hr ((any_due_iff s).mpr hdue)),
      (settle_timeOut _).symm⟩
  · intro hn hm hc
    have hd : drainDue s = true := (drainDue_iff s).mpr ⟨hm, hc⟩
    exact ⟨enterEngaged (begin s), congrArg _ (whenDue_due s _ _ hr hd),
      (settle_enterEngaged (s := begin s) ((none_due_iff s).mpr hn) hd).symm⟩
  · intro p hn hd hp hq
    have hd' : drainDue s = false := Bool.eq_false_iff.mpr fun h => hd ((drainDue_iff s).mp h)
    have hq' : ∀ q : Port, q.val < p.val → heldDue s q = false := fun q hlt =>
      Bool.eq_false_iff.mpr fun h => hq q hlt ((heldDue_iff s q).mp h)
    exact ⟨takeHeld (begin s) p, congrArg _ (whenDue_due s _ _ hr ((heldDue_iff s p).mpr hp)),
      (settle_takeHeld (s := begin s) ((none_due_iff s).mpr hn) hd' hq').symm⟩
  · intro hn
    exact settle_of_settled (begin s) ((settled_iff s).mpr hn)

end Sys2Proof.Machine
end

section
/-! SUPPORT. The operands of the commands, coded and read back, and the commands of the slot calendar. -/

namespace Sys2Proof.Machine

/-! ### Operands -/

theorem index?_byteOf {n : Nat} (hn : n ≤ 256) (i : Fin n) : index? n (byteOf i.val) = some i := by
  have h : (byteOf i.val).toNat = i.val := by
    rw [byteOf, BitVec.toNat_ofNat]
    exact Nat.mod_eq_of_lt (Nat.lt_of_lt_of_le i.isLt hn)
  simp [index?, h]

theorem index?_none {n : Nat} {b : Byte} (h : n ≤ b.toNat) : index? n b = none :=
  dif_neg (Nat.not_lt.mpr h)

@[simp] theorem bank?_byteOf (b : BankIx) : bank? (byteOf b.val) = some b := index?_byteOf (by decide) b
@[simp] theorem slotIx?_byteOf (i : SlotIx) : slotIx? (byteOf i.val) = some i := index?_byteOf (by decide) i
@[simp] theorem port?_byteOf (p : Port) : port? (byteOf p.val) = some p := index?_byteOf (by decide) p
@[simp] theorem windowIx?_byteOf (i : WindowIx) : windowIx? (byteOf i.val) = some i := index?_byteOf (by decide) i
@[simp] theorem account?_byteOf (a : AccountIx) : account? (byteOf a.val) = some a := index?_byteOf (by decide) a

theorem slotCount?_inRange {b : Byte} (h1 : b.toNat ≠ 1) (h32 : b.toNat ≤ 32) :
    slotCount? b = some b.toNat :=
  if_neg (by omega)

theorem slotCount?_none {b : Byte} (h : b.toNat = 1 ∨ 32 < b.toNat) : slotCount? b = none := if_pos h

@[simp] theorem byteOf_toNat (b : Byte) : byteOf b.toNat = b := by
  simp [byteOf]

theorem owner?_ownerCode (o : Owner) : owner? (ownerCode o).toNat = some o := by
  cases o with
  | port p => fin_cases p <;> rfl
  | everyPort => rfl
  | quiet => rfl

theorem owner?_none {n : Nat} (h : 6 ≤ n) : owner? n = none := by
  unfold owner?
  rw [dif_neg (by omega), if_neg (by omega), if_neg (by omega)]

theorem ownerCode_le (o : Owner) : (ownerCode o).toNat ≤ 5 := by
  cases o with
  | port p => fin_cases p <;> decide
  | everyPort => decide
  | quiet => decide

theorem idlePolicy?_idlePolicyCode (i : IdlePolicy) : idlePolicy? (idlePolicyCode i).toNat = some i := by
  cases i <;> rfl

theorem idlePolicy?_none {n : Nat} (h : 2 ≤ n) : idlePolicy? n = none := by
  unfold idlePolicy?
  rw [if_neg (by omega), if_neg (by omega)]

theorem idlePolicyCode_le (i : IdlePolicy) : (idlePolicyCode i).toNat ≤ 1 := by
  cases i <;> decide

/-- A field of a coded word: the bits from `start` on, `len` of them. -/
theorem extract_ofNat (n start len : Nat) (h : n < 2 ^ 32) :
    ((BitVec.ofNat 32 n).extractLsb' start len).toNat = n / 2 ^ start % 2 ^ len := by
  rw [BitVec.extractLsb'_toNat, BitVec.toNat_ofNat, Nat.mod_eq_of_lt h, Nat.shiftRight_eq_div_pow]

/-- A valid slot entry is read back from its four bytes (Table 10-2). -/
theorem slotEntry?_entryWord {e : SlotEntry} (h : e.Valid) : slotEntry? (entryWord e) = some e := by
  obtain ⟨h1, h4095, hc⟩ := h
  have ho := ownerCode_le e.owner
  have hi := idlePolicyCode_le e.idle
  have hf := fun start len => extract_ofNat ((ownerCode e.owner).toNat * 0x10000000
    + (idlePolicyCode e.idle).toNat * 0x1000000 + e.length * 0x100 + e.cutoff) start len (by omega)
  have howner : ((entryWord e).extractLsb' 28 4).toNat = (ownerCode e.owner).toNat := by
    rw [entryWord, hf]
    omega
  have hidle : ((entryWord e).extractLsb' 24 4).toNat = (idlePolicyCode e.idle).toNat := by
    rw [entryWord, hf]
    omega
  have hlength : ((entryWord e).extractLsb' 8 16).toNat = e.length := by
    rw [entryWord, hf]
    omega
  have hcutoff : ((entryWord e).extractLsb' 0 8).toNat = e.cutoff := by
    rw [entryWord, hf]
    omega
  simp only [slotEntry?, howner, hidle, hlength, hcutoff, owner?_ownerCode, idlePolicy?_idlePolicyCode]
  exact if_neg (by omega)

theorem slotEntry?_none {raw : Quad}
    (h : 6 ≤ (raw.extractLsb' 28 4).toNat ∨ 2 ≤ (raw.extractLsb' 24 4).toNat
      ∨ (raw.extractLsb' 8 16).toNat = 0 ∨ 4096 ≤ (raw.extractLsb' 8 16).toNat) : slotEntry? raw = none := by
  unfold slotEntry?
  rcases h with h | h | h
  · rw [owner?_none h]
    rfl
  · rw [idlePolicy?_none h]
    cases owner? (raw.extractLsb' 28 4).toNat <;> rfl
  · cases owner? (raw.extractLsb' 28 4).toNat with
    | none => rfl
    | some o =>
      cases idlePolicy? (raw.extractLsb' 24 4).toNat with
      | none => rfl
      | some i => exact if_pos (by omega)

theorem ranged?_inRange {low high : Nat} {value : Quad} (hl : low ≤ value.toNat) (hh : value.toNat ≤ high) :
    ranged? low high value = some value.toNat := if_pos ⟨hl, hh⟩

theorem ranged?_none {low high : Nat} {value : Quad} (h : value.toNat < low ∨ high < value.toNat) :
    ranged? low high value = none := if_neg (by omega)

theorem engagingOrEngaged_iff (m : Mode) : engagingOrEngaged m = true ↔ m = .engaging ∨ m = .engaged := by
  cases m <;> simp [engagingOrEngaged]

theorem otherBank_unique {a b : BankIx} (h : b ≠ a) : otherBank a = b := by
  revert h
  fin_cases a <;> fin_cases b <;> decide

/-! ### Bank writes -/

theorem checked_some {α : Type} (x : α) (s : State) (judge : α → Reply) : checked (some x) s judge = judge x := rfl

section BankWrites

variable {s : State} {b : BankIx} {n : Nat} {entries : Vector SlotEntry 32}

theorem writeBank_banklive (h : b = s.calendar.active ∧ (s.mode = .engaging ∨ s.mode = .engaged)) :
    writeBank s b n entries = refuse s .banklive := by
  rw [writeBank, bankWriteRefusal, if_pos ⟨h.1, (engagingOrEngaged_iff _).mpr h.2⟩]

theorem writeBank_busy (h : ¬ (b = s.calendar.active ∧ (s.mode = .engaging ∨ s.mode = .engaged)))
    (hp : s.calendar.pendingSwitch = true) : writeBank s b n entries = refuse s .busy := by
  rw [writeBank, bankWriteRefusal, if_neg (by rwa [engagingOrEngaged_iff]), if_pos hp]

/-- A bank write that is done: the bank's content and its signature, and the two in the result (R4, R6). -/
theorem writeBank_done (h : ¬ (b = s.calendar.active ∧ (s.mode = .engaging ∨ s.mode = .engaged)))
    (hp : s.calendar.pendingSwitch = false) :
    writeBank s b n entries =
      ⟨setCalendar s { s.calendar with banks := s.calendar.banks.set b ⟨n, entries, signatureOf n entries⟩ },
        .done, byteOf n :: halfBytes (signatureOf n entries)⟩ := by
  rw [writeBank, bankWriteRefusal, if_neg (by rwa [engagingOrEngaged_iff]), if_neg (by simp [hp])]
  simp [rewriteBank, bankResult]

end BankWrites

/-! ### The commands of the calendar, as a ready link meets them -/

section Commands

variable {s t : State} {tag : Byte} {st : LinkStatus} {res : List Byte}

theorem exec_writeBankHeader {bank slots : Byte} (h : Ready s)
    (e : (checked (bank? bank) (begin s) fun b => checked (slotCount? slots) (begin s) fun n =>
      writeBank (begin s) b n (begin s).calendar.banks[b].entries) = ⟨begin t, st, res⟩) :
    exec (.writeBankHeader tag bank slots) s = .next (afterTransfer s.link t (response st tag 0x10 res)) :=
  congrArg Host.Outcome.next (serve_reply h
    (fun w s => placed_checked w fun b => placed_checked w fun n => placed_writeBank w s b n _) e)

/-- WRITE_BANK_HEADER with operands in range is a bank write of the entries that stand (R7). -/
theorem exec_writeBankHeader_inRange {b : BankIx} {slots : Byte} (h : Ready s) (h1 : slots.toNat ≠ 1)
    (h32 : slots.toNat ≤ 32)
    (e : writeBank (begin s) b slots.toNat s.calendar.banks[b].entries = ⟨begin t, st, res⟩) :
    exec (.writeBankHeader tag (byteOf b.val) slots) s
      = .next (afterTransfer s.link t (response st tag 0x10 res)) :=
  exec_writeBankHeader h (by rw [bank?_byteOf, slotCount?_inRange h1 h32]; exact e)

theorem exec_writeSlot {bank index : Byte} {entry : Quad} (h : Ready s)
    (e : (checked (bank? bank) (begin s) fun b => checked (slotIx? index) (begin s) fun i =>
      checked (slotEntry? entry) (begin s) fun x => writeBank (begin s) b (begin s).calendar.banks[b].slots
        ((begin s).calendar.banks[b].entries.set i x)) = ⟨begin t, st, res⟩) :
    exec (.writeSlot tag bank index entry) s = .next (afterTransfer s.link t (response st tag 0x11 res)) :=
  congrArg Host.Outcome.next (serve_reply h
    (fun w s => placed_checked w fun b => placed_checked w fun _ => placed_checked w fun _ =>
      placed_writeBank w s b _ _) e)

/-- WRITE_SLOT with operands in range is a bank write of the entries with one replaced (R8). -/
theorem exec_writeSlot_inRange {b : BankIx} {i : SlotIx} {x : SlotEntry} (h : Ready s) (hx : x.Valid)
    (e : writeBank (begin s) b s.calendar.banks[b].slots (s.calendar.banks[b].entries.set i x)
      = ⟨begin t, st, res⟩) :
    exec (.writeSlot tag (byteOf b.val) (byteOf i.val) (entryWord x)) s
      = .next (afterTransfer s.link t (response st tag 0x11 res)) :=
  exec_writeSlot h (by rw [bank?_byteOf, slotIx?_byteOf, slotEntry?_entryWord hx]; exact e)

theorem exec_readBank {bank : Byte} (h : Ready s)
    (e : (checked (bank? bank) (begin s) fun b => ⟨begin s, .done, bankResult s.calendar.banks[b]⟩)
      = ⟨begin t, st, res⟩) :
    exec (.readBank tag bank) s = .next (afterTransfer s.link t (response st tag 0x12 res)) :=
  congrArg Host.Outcome.next (serve_reply h (fun w _ => placed_checked w fun _ => rfl) e)

theorem exec_readSlot {bank index : Byte} (h : Ready s)
    (e : (checked (bank? bank) (begin s) fun b => checked (slotIx? index) (begin s) fun i =>
      ⟨begin s, .done, slotEntryBytes s.calendar.banks[b].entries[i]⟩) = ⟨begin t, st, res⟩) :
    exec (.readSlot tag bank index) s = .next (afterTransfer s.link t (response st tag 0x13 res)) :=
  congrArg Host.Outcome.next (serve_reply h (fun w _ => placed_checked w fun _ => placed_checked w fun _ => rfl) e)

theorem exec_readWindow {port window : Byte} (h : Ready s)
    (e : (checked (port? port) (begin s) fun p => checked (windowIx? window) (begin s) fun i =>
      ⟨begin s, .done, windowResult (s.windows[p])[i]⟩) = ⟨begin t, st, res⟩) :
    exec (.readWindow tag port window) s = .next (afterTransfer s.link t (response st tag 0x21 res)) :=
  congrArg Host.Outcome.next (serve_reply h (fun w _ => placed_checked w fun _ => placed_checked w fun _ => rfl) e)

theorem exec_readAccount {account : Byte} (h : Ready s)
    (e : (checked (account? account) (begin s) fun a => ⟨begin s, .done, accountResult s.accounts[a]⟩)
      = ⟨begin t, st, res⟩) :
    exec (.readAccount tag account) s = .next (afterTransfer s.link t (response st tag 0x31 res)) :=
  congrArg Host.Outcome.next (serve_reply h (fun w _ => placed_checked w fun _ => rfl) e)

theorem exec_switch {signature : Half} (h : Ready s)
    (e : requestSwitch signature (begin s) = ⟨begin t, st, res⟩) :
    exec (.switch tag signature) s = .next (afterTransfer s.link t (response st tag 0x14 res)) :=
  congrArg Host.Outcome.next (serve_reply h (fun w s => placed_requestSwitch w s signature) e)

theorem exec_cancelSwitch (h : Ready s)
    (e : (if s.calendar.pendingSwitch then
        (⟨setCalendar (begin s) { s.calendar with pendingSwitch := false }, .done, []⟩ : Reply)
      else refuse (begin s) .notpending) = ⟨begin t, st, res⟩) :
    exec (.cancelSwitch tag) s = .next (afterTransfer s.link t (response st tag 0x15 res)) :=
  congrArg Host.Outcome.next (serve_reply h (fun w _ => placed_ite w rfl rfl) e)

theorem exec_setTickDivider {value : Quad} (h : Ready s)
    (e : (checked (ranged? 1 65536 value) (begin s) fun n =>
        if engagingOrEngaged s.mode then (⟨begin s, .mode, parameterResult 0x01 s.calendar.divider⟩ : Reply)
        else ⟨setCalendar (begin s) { s.calendar with divider := n }, .done, parameterResult 0x01 n⟩)
      = ⟨begin t, st, res⟩) :
    exec (.setTickDivider tag value) s = .next (afterTransfer s.link t (response st tag 0x60 res)) :=
  congrArg Host.Outcome.next (serve_reply h (fun w _ => placed_checked w fun _ => placed_ite w rfl rfl) e)

theorem exec_setDepth {value : Quad} (h : Ready s)
    (e : (checked (ranged? 1 4 value) (begin s) fun n => judgeDepth n (begin s)) = ⟨begin t, st, res⟩) :
    exec (.setDepth tag value) s = .next (afterTransfer s.link t (response st tag 0x60 res)) :=
  congrArg Host.Outcome.next (serve_reply h (fun w s => placed_checked w fun n => placed_judgeDepth w s n) e)

end Commands

/-- Settles O10: the bank write is judged on the live bank, then on the pending switch. -/
theorem bankWritesAreJudgedInOrder : Obligations.BankWritesAreJudgedInOrder := by
  unfold Obligations.BankWritesAreJudgedInOrder
  intro s tag b slots i e h h1 h32 he
  refine ⟨fun hlive => ⟨?_, ?_⟩, fun hlive hp => ⟨?_, ?_⟩, fun hlive hp => ⟨?_, ?_⟩⟩
  · exact exec_writeBankHeader_inRange h h1 h32 (writeBank_banklive hlive)
  · exact exec_writeSlot_inRange h he (writeBank_banklive hlive)
  · exact exec_writeBankHeader_inRange h h1 h32 (writeBank_busy hlive hp)
  · exact exec_writeSlot_inRange h he (writeBank_busy hlive hp)
  · exact ⟨_, exec_writeBankHeader_inRange (t := setCalendar s _) h h1 h32 (writeBank_done hlive hp), rfl⟩
  · exact ⟨_, exec_writeSlot_inRange (t := setCalendar s _) h he (writeBank_done hlive hp), rfl⟩

/-- Settles O11: a bank write of the entries that stand. -/
theorem writeBankHeaderSetsTheSlotCount : Obligations.WriteBankHeaderSetsTheSlotCount := by
  unfold Obligations.WriteBankHeaderSetsTheSlotCount
  intro s tag h
  refine ⟨fun bank slots hbad => exec_writeBankHeader h ?_, fun b slots h1 h32 hlive hp => ?_⟩
  · rcases hbad with hbank | hslots
    · rw [bank?, index?_none hbank]
      rfl
    · rw [slotCount?_none hslots]
      cases bank? bank <;> rfl
  · have e := exec_writeBankHeader_inRange (tag := tag) (t := setCalendar s _) h h1 h32 (writeBank_done hlive hp)
    rw [signatureOf, signedBytes, byteOf_toNat] at e
    exact e

/-- A slot at or above S is not covered by the signature (R4, R8). -/
theorem signatureOf_set_above {slots : Nat} {entries : Vector SlotEntry 32} {i : SlotIx} (e : SlotEntry)
    (h : slots ≤ i.val) : signatureOf slots (entries.set i e) = signatureOf slots entries := by
  simp [signatureOf, signedBytes, Vector.toList_set, List.take_set_of_le h]

/-- Settles O12: a bank write of the entries with one replaced. -/
theorem writeSlotReplacesOneEntry : Obligations.WriteSlotReplacesOneEntry := by
  unfold Obligations.WriteSlotReplacesOneEntry
  intro s tag h
  refine ⟨fun bank index entry hbad => exec_writeSlot h ?_, fun b i e he hlive hp => ⟨?_, ?_⟩⟩
  · rcases hbad with hbank | hindex | hentry
    · rw [bank?, index?_none hbank]
      rfl
    · rw [slotIx?, index?_none hindex]
      cases bank? bank <;> rfl
    · rw [slotEntry?_none hentry]
      cases bank? bank <;> cases slotIx? index <;> rfl
  · exact exec_writeSlot_inRange h he (writeBank_done hlive hp)
  · exact signatureOf_set_above e

/-- Settles O13: the four reads leave the state and give what stands there. -/
theorem readsReturnWhatIsStored : Obligations.ReadsReturnWhatIsStored := by
  unfold Obligations.ReadsReturnWhatIsStored
  intro s tag h
  refine ⟨fun b => exec_readBank h ?_, fun b i => exec_readSlot h ?_, fun p i => exec_readWindow h ?_,
    fun a => exec_readAccount h ?_, fun x y => ⟨fun hx => exec_readBank h ?_, fun hxy => exec_readSlot h ?_,
      fun hxy => exec_readWindow h ?_, fun hx => exec_readAccount h ?_⟩⟩
  · rw [bank?_byteOf]
    rfl
  · rw [bank?_byteOf, slotIx?_byteOf]
    rfl
  · rw [port?_byteOf, windowIx?_byteOf]
    rfl
  · rw [account?_byteOf]
    rfl
  · rw [bank?, index?_none hx]
    rfl
  · rcases hxy with hx | hy
    · rw [bank?, index?_none hx]
      rfl
    · rw [slotIx?, index?_none hy]
      cases bank? x <;> rfl
  · rcases hxy with hx | hy
    · rw [port?, index?_none hx]
      rfl
    · rw [windowIx?, index?_none hy]
      cases port? x <;> rfl
  · rw [account?, index?_none hx]
    rfl

/-- The checks of SWITCH, one after another (R16). -/
theorem requestSwitch_eq (s : State) (signature : Half) :
    (s.mode ≠ .engaged → requestSwitch signature s = refuse s .mode)
    ∧ (s.mode = .engaged → s.calendar.pendingSwitch = true → requestSwitch signature s = refuse s .busy)
    ∧ (s.mode = .engaged → s.calendar.pendingSwitch = false →
        ((stagingBank s.calendar).slots = 0 → requestSwitch signature s = refuse s .badvalue)
        ∧ ((stagingBank s.calendar).slots ≠ 0 →
          ((stagingBank s.calendar).signature ≠ signature → requestSwitch signature s = refuse s .signature)
          ∧ ((stagingBank s.calendar).signature = signature → requestSwitch signature s =
            ⟨setCalendar s { s.calendar with pendingSwitch := true }, .accepted, []⟩))) := by
  unfold requestSwitch
  refine ⟨fun hm => if_pos hm, fun hm hp => ?_, fun hm hp => ⟨fun h0 => ?_, fun h0 => ⟨fun hs => ?_, fun hs => ?_⟩⟩⟩ <;>
    rw [if_neg (not_not.mpr hm)]
  · rw [if_pos hp]
  all_goals rw [if_neg (Bool.eq_false_iff.mp hp)]
  · rw [if_pos h0]
  all_goals rw [if_neg h0]
  · rw [if_pos hs]
  · rw [if_neg (not_not.mpr hs)]

/-- Settles O14: the four checks of R16 in order. -/
theorem switchIsJudgedInOrder : Obligations.SwitchIsJudgedInOrder := by
  unfold Obligations.SwitchIsJudgedInOrder
  refine ⟨rfl, fun s tag signature staging h hs => ?_⟩
  obtain rfl := otherBank_unique hs
  obtain ⟨hmode, hbusy, hrest⟩ := requestSwitch_eq (begin s) signature
  refine ⟨fun hm => exec_switch h (hmode hm), fun hm hp => exec_switch h (hbusy hm hp), fun hm hp => ?_⟩
  obtain ⟨hempty, hfull⟩ := hrest hm hp
  exact ⟨fun h0 => exec_switch h (hempty h0), fun h0 =>
    ⟨fun hsig => exec_switch h ((hfull h0).1 hsig), fun hsig => exec_switch h ((hfull h0).2 hsig)⟩⟩

/-- Settles O15: the two cases of R18. -/
theorem cancelSwitchClearsThePendingFlag : Obligations.CancelSwitchClearsThePendingFlag := by
  unfold Obligations.CancelSwitchClearsThePendingFlag
  intro s tag h
  refine ⟨fun hp => exec_cancelSwitch h ?_, fun hp => exec_cancelSwitch h ?_⟩
  · rw [if_pos hp]
    rfl
  · rw [if_neg (by simp [hp])]
    rfl

/-- The judgement of the depth (R111). -/
theorem judgeDepth_eq (n : Nat) (s : State) :
    (engagingOrEngaged s.mode = true → judgeDepth n s = ⟨s, .mode, parameterResult 0x02 s.memory.depth⟩)
    ∧ (engagingOrEngaged s.mode = false →
        (s.memory.issue ≠ [] ∨ s.offer ≠ none →
          judgeDepth n s = ⟨s, .busy, parameterResult 0x02 s.memory.depth⟩)
        ∧ (s.memory.issue = [] → s.offer = none → judgeDepth n s =
          ⟨{ s with memory := { s.memory with depth := n } }, .done, parameterResult 0x02 n⟩)) := by
  unfold judgeDepth
  refine ⟨fun hm => if_pos hm, fun hm => ?_⟩
  rw [if_neg (Bool.eq_false_iff.mp hm)]
  refine ⟨fun hb => if_pos ?_, fun hi ho => if_neg ?_⟩
  · simpa [Option.isSome_iff_ne_none] using hb
  · simp [hi, ho]

/-- Settles O16: the range is checked first, then the mode, then for the depth the list and the offer. -/
theorem dividerAndDepthAreSetOutsideEngagement : Obligations.DividerAndDepthAreSetOutsideEngagement := by
  unfold Obligations.DividerAndDepthAreSetOutsideEngagement
  intro s tag value h
  have hrun : s.mode = .engaging ∨ s.mode = .engaged → engagingOrEngaged s.mode = true :=
    (engagingOrEngaged_iff s.mode).mpr
  have hidle : s.mode = .pass ∨ s.mode = .halted → engagingOrEngaged s.mode = false := by
    rintro (hm | hm) <;> rw [hm] <;> rfl
  have hvalue : ∀ i : Byte, parameterResult i value.toNat = i :: quadBytes value := by
    simp [parameterResult, fourBytes]
  obtain ⟨hdepth, hrest⟩ := judgeDepth_eq value.toNat (begin s)
  refine ⟨fun hv => exec_setTickDivider h ?_, fun hl hh => ⟨fun hm => exec_setTickDivider h ?_,
    fun hm => exec_setTickDivider h ?_⟩, fun hv => exec_setDepth h ?_, fun hl hh =>
    ⟨fun hm => exec_setDepth h ?_, fun hm => ⟨fun hb => exec_setDepth h ?_, fun hi ho => exec_setDepth h ?_⟩⟩⟩
  · rw [ranged?_none hv]
    rfl
  · rw [ranged?_inRange hl hh, checked_some, if_pos (hrun hm)]
    rfl
  · rw [ranged?_inRange hl hh, checked_some, if_neg (Bool.eq_false_iff.mp (hidle hm)), hvalue]
    rfl
  · rw [ranged?_none hv]
    rfl
  · rw [ranged?_inRange hl hh, checked_some, hdepth (hrun hm)]
    rfl
  · rw [ranged?_inRange hl hh, checked_some, (hrest (hidle hm)).1 hb]
    rfl
  · rw [ranged?_inRange hl hh, checked_some, (hrest (hidle hm)).2 hi ho, hvalue]
    rfl

end Sys2Proof.Machine
end

section
/-! SUPPORT. The tick and what it brings about, the end of the drain, and the state after reset. -/

namespace Sys2Proof.Machine

/-! ### The tick -/

/-- The state in which a command begins and every waiting entry has counted a tick (R98). -/
def ticked (s : State) : State := setIssue (begin s) (tickedList s.memory.issue)

theorem countTick_eq (l : List Entry) : l.map countTick = tickedList l :=
  List.map_congr_left fun e _ => by simp [countTick, waitsForCompletion, Config.tickCountCeiling]

theorem tickBoth_idle {s : State} (hm : s.mode ≠ .engaged) : tickBoth (begin s) = ticked s := by
  rw [tickBoth, countTick_eq]
  exact if_neg hm

theorem tickBoth_engaged {s : State} (hm : s.mode = .engaged) :
    tickBoth (begin s) = tickCalendar (ticked s) := by
  rw [tickBoth, countTick_eq]
  exact if_pos hm

theorem slotEnds_iff (s : State) : slotEnds s = true ↔ s.mode = .engaged ∧ s.calendar.ticks ≤ 1 := by
  simp [slotEnds]

theorem belowLastSlot_iff (c : Calendar) :
    belowLastSlot c = true ↔ c.slot.val + 1 < c.banks[c.active].slots := decide_eq_true_iff

section Rows

variable {s : State}

theorem exec_tick (h : Awake s) : exec .tick s = .next (tickBoth (begin s)) :=
  congrArg Host.Outcome.next (onBus_awake s tickBoth h)

/-- SLOT_EXPIRY is the tick that ends a slot below S−1. -/
theorem exec_slotExpiry_due (h : Awake s) (hm : s.mode = .engaged) (ht : s.calendar.ticks ≤ 1)
    (hb : s.calendar.slot.val + 1 < s.calendar.banks[s.calendar.active].slots) :
    exec .slotExpiry s = .next (tickBoth (begin s)) := by
  have hc : (slotEnds (begin s) && belowLastSlot (begin s).calendar) = true := by
    rw [Bool.and_eq_true, slotEnds_iff, belowLastSlot_iff]
    exact ⟨⟨hm, ht⟩, hb⟩
  exact congrArg Host.Outcome.next ((onBus_awake s _ h).trans (if_pos hc))

theorem exec_slotExpiry_not_due (h : Awake s) (hn : s.mode ≠ .engaged ∨ 2 ≤ s.calendar.ticks
    ∨ s.calendar.banks[s.calendar.active].slots ≤ s.calendar.slot.val + 1) :
    exec .slotExpiry s = .next (begin s) := by
  have hc : ¬ (slotEnds (begin s) && belowLastSlot (begin s).calendar) = true := by
    rw [Bool.and_eq_true, slotEnds_iff, belowLastSlot_iff]
    rintro ⟨⟨hm, ht⟩, hb⟩
    rcases hn with hn | hn | hn
    · exact hn hm
    · exact Nat.not_lt.mpr ht hn
    · exact Nat.not_lt.mpr hn hb
  exact congrArg Host.Outcome.next ((onBus_awake s _ h).trans (if_neg hc))

/-- FRAME_BOUNDARY is the tick that ends slot S−1. -/
theorem exec_frameBoundary_due (h : Awake s) (hm : s.mode = .engaged) (ht : s.calendar.ticks ≤ 1)
    (hb : s.calendar.banks[s.calendar.active].slots ≤ s.calendar.slot.val + 1) :
    exec .frameBoundary s = .next (tickBoth (begin s)) := by
  have hc : (slotEnds (begin s) && !belowLastSlot (begin s).calendar) = true := by
    rw [Bool.and_eq_true, slotEnds_iff, Bool.not_eq_true', ← Bool.not_eq_true, belowLastSlot_iff]
    exact ⟨⟨hm, ht⟩, Nat.not_lt.mpr hb⟩
  exact congrArg Host.Outcome.next ((onBus_awake s _ h).trans (if_pos hc))

theorem exec_frameBoundary_not_due (h : Awake s) (hn : s.mode ≠ .engaged ∨ 2 ≤ s.calendar.ticks
    ∨ s.calendar.slot.val + 1 < s.calendar.banks[s.calendar.active].slots) :
    exec .frameBoundary s = .next (begin s) := by
  have hc : ¬ (slotEnds (begin s) && !belowLastSlot (begin s).calendar) = true := by
    rw [Bool.and_eq_true, slotEnds_iff, Bool.not_eq_true', ← Bool.not_eq_true, belowLastSlot_iff]
    rintro ⟨⟨hm, ht⟩, hb⟩
    rcases hn with hn | hn | hn
    · exact hn hm
    · exact Nat.not_lt.mpr ht hn
    · exact hb hn
  exact congrArg Host.Outcome.next ((onBus_awake s _ h).trans (if_neg hc))

/-- The tick that takes the ticks remaining to 0, below S−1: the next slot starts (R12, R14). -/
theorem tickBoth_below (hm : s.mode = .engaged) (h1 : s.calendar.ticks = 1)
    (hb : s.calendar.slot.val + 1 < s.calendar.banks[s.calendar.active].slots) :
    tickBoth (begin s) = expireSlot (ticked s) := by
  rw [tickBoth_engaged hm]
  exact (if_pos (Nat.le_of_eq h1)).trans (if_pos ((belowLastSlot_iff s.calendar).mpr hb))

/-- The tick that takes the ticks remaining to 0 in slot S−1: a frame boundary (R12, R15). -/
theorem tickBoth_last (hm : s.mode = .engaged) (h1 : s.calendar.ticks = 1)
    (hb : s.calendar.banks[s.calendar.active].slots ≤ s.calendar.slot.val + 1) :
    tickBoth (begin s) = boundary (ticked s) := by
  rw [tickBoth_engaged hm]
  exact (if_pos (Nat.le_of_eq h1)).trans
    (if_neg fun h => Nat.not_lt.mpr hb ((belowLastSlot_iff s.calendar).mp h))

end Rows

/-- Settles O35: the tick in the three cases of the ticks remaining. -/
theorem tickCountsTheEntriesAndTheSlot : Obligations.TickCountsTheEntriesAndTheSlot := by
  unfold Obligations.TickCountsTheEntriesAndTheSlot
  intro s h
  refine ⟨fun hm => ?_, fun hm h2 => ?_, fun hm h1 => ⟨fun hb => ?_, fun hb => ?_⟩⟩
  · rw [exec_tick h, tickBoth_idle hm]
    rfl
  · rw [exec_tick h, tickBoth_engaged hm]
    rcases tickCalendar_cases (ticked s) with
      ⟨hle, _⟩ | ⟨hle, _⟩ | ⟨_, e⟩
    · exact absurd h2 (Nat.not_le.mpr (Nat.lt_succ_of_le hle))
    · exact absurd h2 (Nat.not_le.mpr (Nat.lt_succ_of_le hle))
    · exact congrArg Host.Outcome.next e
  · exact ⟨_, exec_slotExpiry_due h hm (Nat.le_of_eq h1) hb, exec_tick h⟩
  · exact ⟨_, exec_frameBoundary_due h hm (Nat.le_of_eq h1) hb, exec_tick h⟩

/-- Settles O36: the next slot starts and the selector chooses for it. -/
theorem slotExpiryStartsTheNextSlot : Obligations.SlotExpiryStartsTheNextSlot := by
  unfold Obligations.SlotExpiryStartsTheNextSlot
  refine fun s h => ⟨fun i hm h1 hi hS => ?_, fun hn => exec_slotExpiry_not_due h hn⟩
  have hb : s.calendar.slot.val + 1 < s.calendar.banks[s.calendar.active].slots := hi ▸ hS
  have hnext : nextSlot s.calendar.slot = i := by
    rw [nextSlot, dif_pos (by omega)]
    exact Fin.ext hi.symm
  rw [exec_slotExpiry_due h hm (Nat.le_of_eq h1) hb, tickBoth_below hm h1 hb, expireSlot, makeOffer_eq, ← hnext]
  rfl

/-- The tick of a frame boundary, up to what the boundary does next. -/
theorem boundaryCommon_ticked (s : State) :
    boundaryCommon (ticked s) = countedBoundary s := by
  simp only [boundaryCommon, clearStrikes, mapEntries_eq_map, countedBoundary, ticked, setCalendar, withdraw,
    setOffer, setIssue, begin, setOutputs]
  rfl

/-- A frame boundary's tick, with all that every boundary does in one state (R15). -/
theorem exec_frameBoundary_eq {s : State} (h : Awake s) (hm : s.mode = .engaged) (h1 : s.calendar.ticks = 1)
    (hb : s.calendar.banks[s.calendar.active].slots ≤ s.calendar.slot.val + 1) :
    exec .frameBoundary s = .next (offering
      (if s.pendingDisengage then takeDisengage (countedBoundary s)
      else if s.calendar.pendingSwitch then takeSwitch (countedBoundary s)
      else setCalendar (countedBoundary s) (startSlot (countedBoundary s).calendar 0))) := by
  rw [exec_frameBoundary_due h hm (Nat.le_of_eq h1) hb, tickBoth_last hm h1 hb, boundary, makeOffer_eq,
    boundaryCommon_ticked]
  rfl

/-- Settles O37: the boundary without a pending disengage. -/
theorem frameBoundaryContinuesOrSwitches : Obligations.FrameBoundaryContinuesOrSwitches := by
  unfold Obligations.FrameBoundaryContinuesOrSwitches
  refine fun s h => ⟨fun hm h1 hb hd => ⟨fun hp => ?_, fun other hp ho => ?_⟩,
    fun hn => exec_frameBoundary_not_due h hn⟩
  · rw [exec_frameBoundary_eq h hm h1 hb, hd, hp]
    rfl
  · obtain rfl := otherBank_unique ho
    rw [exec_frameBoundary_eq h hm h1 hb, hd, hp]
    rfl

/-- A pending disengage is taken: the calendar stops, and the events follow in the order of R19 and R121. -/
theorem takeDisengage_eq (s : State) :
    takeDisengage s =
      let stopped : State := { s with
        mode := .pass
        pendingDisengage := false
        calendar := { s.calendar with slot := 0, ticks := 0, pendingSwitch := false } }
      report
        (if s.calendar.pendingSwitch then
          report stopped { kind := .switchDropped, detail := some (byteOf s.calendar.active.val) }
        else stopped)
        { kind := .modeChange, detail := some 0x00 } := by
  unfold takeDisengage
  cases s.calendar.pendingSwitch <;> rfl

/-- Settles O38: the boundary that takes a pending disengage. -/
theorem frameBoundaryTakesAPendingDisengage : Obligations.FrameBoundaryTakesAPendingDisengage := by
  unfold Obligations.FrameBoundaryTakesAPendingDisengage
  intro s h hm h1 hb hd
  rw [exec_frameBoundary_eq h hm h1 hb, if_pos hd, takeDisengage_eq]
  rfl

/-! ### The end of the drain -/

/-- With every queue empty the selector finds no candidate. -/
theorem choose_of_empty_queues {s : State} (h : ∀ p : Port, s.ports[p].queue = []) : choose s = none := by
  have ho : ∀ g b p f, offerOf s g b p f = none := by
    intro g b p f
    rw [offerOf, candidate, h p]
    rfl
  have hs : ∀ g l f, search s g l f = none := by
    intro g l f
    simp [search, ho]
  unfold choose
  split
  · exact hs ..
  · exact hs ..
  · rfl
  · split_ifs
    · rfl
    · split
      · rfl
      · simp [chooseOpen, hs]
      · unfold chooseOwned
        split <;> simp [ho, hs]

theorem offering_of_none {s : State} (ho : s.offer = none) (hc : choose s = none) : offering s = s := by
  rw [offering, hc, ho, ite_self, ← ho]

/-- Settles O24: at the end of the drain the run starts, and no port has a record to offer. -/
theorem drainCompletionStartsTheRun : Obligations.DrainCompletionStartsTheRun := by
  unfold Obligations.DrainCompletionStartsTheRun
  refine fun s hr => ⟨fun hm hc ho => ?_, fun hn => ?_⟩
  · have hd : drainDue s = true := (drainDue_iff s).mpr ⟨hm, hc⟩
    have hempty : choose (startedRun (begin s)) = none :=
      choose_of_empty_queues fun p => by simpa [startedRun] using hc.1 p
    refine (congrArg Host.Outcome.next ((whenDue_due s drainDue enterEngaged hr hd).trans
      (enterEngaged_eq (begin s)))).trans ?_
    rw [offering_of_none (s := startedRun (begin s)) ho hempty]
    rfl
  · have hd : drainDue s = false := Bool.eq_false_iff.mpr fun h => by
      obtain ⟨hm, hc⟩ := (drainDue_iff s).mp h
      exact hn.elim (fun h => h hm) (fun h => h hc)
    exact congrArg Host.Outcome.next (whenDue_not_due s drainDue enterEngaged hd)

/-! ### Reset -/

theorem reset_port (p : Port) : State.reset.ports[p] = PortUnit.reset := by simp [State.reset]

theorem reset_window (p : Port) (i : WindowIx) : (State.reset.windows[p])[i] = Window.reset := by
  simp [State.reset]

theorem reset_account (a : AccountIx) : State.reset.accounts[a] = Account.reset := by simp [State.reset]

theorem withinCapacity_reset : WithinCapacity State.reset where
  queues p := by rw [reset_port]; exact Nat.zero_le 8
  strikes p := by rw [reset_port]; exact Nat.zero_le 15
  fence := by decide
  depth := by decide
  issue := by decide
  room := nofun

theorem windowsSound_reset : WindowsSound State.reset := fun p i => by
  rw [reset_window]
  exact ⟨Nat.le_refl 0, Nat.zero_le _⟩

theorem eventsSound_reset : EventsSound State.reset where
  held := by decide
  ordered := trivial
  loss := by decide
  alert := by simp [State.reset, EventUnit.reset]

theorem linkSound_reset : LinkSound State.reset where
  held := by simp [State.reset]
  transfer := nofun
  undriven _ := rfl
  first := nofun

theorem prompt_reset : Prompt State.reset where
  depth := by decide
  answers p r h := by rw [reset_port] at h; cases h
  quiescing p h := by rw [reset_port] at h; cases h
  offer _ _ := choose_of_empty_queues fun p => by rw [reset_port]; rfl

theorem coherent_reset : Coherent State.reset where
  acyclic a p h := by rw [reset_account] at h; cases h
  accounts a := by
    rw [reset_account]
    exact ⟨by decide, by decide, by decide, by decide, nofun⟩
  records p := by rw [reset_port]; simp [PortUnit.reset]
  entries := ⟨nofun, nofun, .nil⟩
  offer := nofun

/-- Settles O2: the laws one by one, of empty queues and lists and of tables of reset values. -/
theorem lawsHoldAfterReset : Obligations.LawsHoldAfterReset :=
  ⟨withinCapacity_reset, windowsSound_reset, eventsSound_reset, calendarSound_reset, linkSound_reset,
    prompt_reset, coherent_reset, nofun, nofun⟩

end Sys2Proof.Machine
end

section
/-! SUPPORT. What it means that every port answers its front, and the halt. -/

namespace Sys2Proof.Machine

/-! ### Every port answers its front -/

/-- A port once it has answered its front (R50, R55). -/
def answeredPort (u : PortUnit) : PortUnit :=
  let kept := u.queue.dropWhile answerable
  { u with queue := kept, state := if u.state = .quiescing ∧ kept = [] then .quiesced else u.state }

/-- The answers that a port gives from its front (R50, R51). -/
def frontAnswers (u : PortUnit) : List Answer := (u.queue.takeWhile answerable).map answerOf

theorem answerFront_port (s : State) (p q : Port) :
    (answerFront s p).ports[q] = if p = q then answeredPort s.ports[p] else s.ports[q] := by
  rw [answerFront_eq]
  exact set_get ..

theorem answerFront_answers (s : State) (p q : Port) :
    (answerFront s p).outputs.answers[q] =
      if p = q then s.outputs.answers[p] ++ frontAnswers s.ports[p] else s.outputs.answers[q] := by
  rw [answerFront_eq]
  exact set_get ..

theorem aboutToQuiesce_iff (s : State) (p : Port) :
    aboutToQuiesce s p = true ↔ s.ports[p].state = .quiescing ∧ s.ports[p].queue.dropWhile answerable = [] := by
  simp only [aboutToQuiesce, Bool.and_eq_true, beq_iff_eq, List.dropWhile_eq_nil_iff, List.all_eq_true]

/-- PORT_QUIESCED of a port, as the event unit stores it. -/
def storeQuiesced (at_ : Position) (u : EventUnit) (p : Port) : EventUnit :=
  storeIn u at_ { kind := .portQuiesced, port := some p }

theorem answerFront_events (s : State) (p : Port) :
    (answerFront s p).events =
      if aboutToQuiesce s p then storeQuiesced (positionOf s.calendar) s.events p else s.events := by
  simp only [aboutToQuiesce_iff]
  rw [answerFront_eq]
  rfl

section Fold

variable {l : List Port}

theorem foldl_answerFront_port (hl : l.Nodup) (s : State) (q : Port) :
    (l.foldl answerFront s).ports[q] = if q ∈ l then answeredPort s.ports[q] else s.ports[q] := by
  induction l generalizing s with
  | nil => rfl
  | cons p l ih =>
    obtain ⟨hp, hl⟩ := List.nodup_cons.mp hl
    rw [List.foldl_cons, ih hl, answerFront_port]
    by_cases h : p = q
    · subst h
      simp [hp]
    · simp [h, Ne.symm h]

theorem foldl_answerFront_answers (hl : l.Nodup) (s : State) (q : Port) :
    (l.foldl answerFront s).outputs.answers[q] =
      if q ∈ l then s.outputs.answers[q] ++ frontAnswers s.ports[q] else s.outputs.answers[q] := by
  induction l generalizing s with
  | nil => rfl
  | cons p l ih =>
    obtain ⟨hp, hl⟩ := List.nodup_cons.mp hl
    rw [List.foldl_cons, ih hl, answerFront_port, answerFront_answers]
    by_cases h : p = q
    · subst h
      simp [hp]
    · simp [h, Ne.symm h]

/-- The events of a run of answering: PORT_QUIESCED of each port that ends its quiescing, in the run's order. -/
theorem foldl_answerFront_events (hl : l.Nodup) (s : State) :
    (l.foldl answerFront s).events =
      (l.filter (aboutToQuiesce s)).foldl (storeQuiesced (positionOf s.calendar)) s.events := by
  induction l generalizing s with
  | nil => rfl
  | cons p l ih =>
    obtain ⟨hp, hl⟩ := List.nodup_cons.mp hl
    have hsame : l.filter (aboutToQuiesce (answerFront s p)) = l.filter (aboutToQuiesce s) :=
      List.filter_congr fun q hq => by
        have hne : p ≠ q := fun h => hp (h ▸ hq)
        rw [aboutToQuiesce, aboutToQuiesce, answerFront_port, if_neg hne]
    have hc : (answerFront s p).calendar = s.calendar := (regime_eq_iff.mp (regime_answerFront s p)).2.2
    rw [List.foldl_cons, ih hl, hsame, hc, answerFront_events, List.filter_cons]
    split_ifs <;> rfl

end Fold

theorem answerOrder_perm (s : State) : (answerOrder s).Perm allPorts :=
  (List.perm_append_comm.trans ((arrange_perm _ _).append_right _)).trans
    (List.filter_append_perm (aboutToQuiesce s) allPorts)

theorem answerOrder_nodup (s : State) : (answerOrder s).Nodup :=
  (answerOrder_perm s).nodup_iff.mpr (by decide)

theorem mem_answerOrder (s : State) (p : Port) : p ∈ answerOrder s :=
  (answerOrder_perm s).mem_iff.mpr (by revert p; decide)

/-! ### The halt -/

theorem settleWaiting_halted : settleWaiting .halted = haltedRecord := by
  funext r
  simp [settleWaiting, haltedRecord, isWaiting]

theorem answerable_haltedRecord (r : Record) : answerable (haltedRecord r) = (r.state != .issued) := by
  cases h : r.state <;> simp [answerable, haltedRecord, h]

theorem settledByHalt_port (s : State) (p : Port) :
    (settledByHalt s).ports[p] = { s.ports[p] with queue := s.ports[p].queue.map haltedRecord } := by
  rw [← settleWaiting_halted]
  exact mapEntries_get ..

/-- The ports that the halt's answers bring to QUIESCED are those that hold no ISSUED record. -/
theorem filter_aboutToQuiesce_settledByHalt (s : State) :
    allPorts.filter (aboutToQuiesce (settledByHalt s)) = portsEndedByHalt s := by
  refine List.filter_congr fun p _ => ?_
  rw [aboutToQuiesce, settledByHalt_port]
  simp only [List.all_map]
  congr 2
  funext r
  exact answerable_haltedRecord r

theorem mem_portsEndedByHalt (s : State) (p : Port) :
    p ∈ portsEndedByHalt s ↔
      s.ports[p].state = .quiescing ∧ (s.ports[p].queue.map haltedRecord).dropWhile answerable = [] := by
  rw [← filter_aboutToQuiesce_settledByHalt, List.mem_filter, aboutToQuiesce_iff, settledByHalt_port]
  exact and_iff_right (by revert p; decide)

/-- The blocks that a halt leaves as they are, apart from the calendar's flag. -/
theorem enterHalted_kept (s : State) :
    (enterHalted s).accounts = s.accounts ∧ (enterHalted s).accountStats = s.accountStats
      ∧ (enterHalted s).windows = s.windows ∧ (enterHalted s).portStats = s.portStats
      ∧ (enterHalted s).fenceLimit = s.fenceLimit ∧ (enterHalted s).pointer = s.pointer
      ∧ (enterHalted s).memory = s.memory ∧ (enterHalted s).serial = s.serial ∧ (enterHalted s).offer = none := by
  have h := foldl_keeps (fun t : State => (t.accounts, t.accountStats, t.windows, t.portStats, t.fenceLimit,
    t.pointer, t.memory, t.serial, t.offer)) answerFront (fun t p => by rw [answerFront_eq]; rfl)
    (answerOrder (settledByHalt s)) (settledByHalt s)
  rw [enterHalted_eq, answerAll_eq]
  generalize (answerOrder (settledByHalt s)).foldl answerFront (settledByHalt s) = u at h
  simp only [Prod.mk.injEq] at h
  exact h

/-- Entering HALTED has every effect of R122 and R123. -/
theorem haltedFrom_enterHalted (s : State) : HaltedFrom s (enterHalted s) := by
  have hr := regime_enterHalted s
  simp only [regime, Prod.mk.injEq] at hr
  obtain ⟨hmode, hflags, hcalendar⟩ := hr
  obtain ⟨ha, has, hw, hps, hf, hptr, hmem, hser, ho⟩ := enterHalted_kept s
  have hblind : Blind enterHalted := fun w s => within_enterHalted w s
  obtain ⟨hpend, hreset, -⟩ := hblind.forwarding.frame s
  have hnodup := answerOrder_nodup (settledByHalt s)
  have hall := mem_answerOrder (settledByHalt s)
  have hport := foldl_answerFront_port hnodup (settledByHalt s)
  have hans := foldl_answerFront_answers hnodup (settledByHalt s)
  have hev := foldl_answerFront_events hnodup (settledByHalt s)
  refine ⟨hmode, hflags, hcalendar, ho, fun p => ?_, fun p => ?_, ?_,
    ⟨ha, has, hw, hps, hf, hptr, hmem, hpend, hreset, hser, hblind.forwarded s⟩⟩
  · rw [enterHalted_eq, reportMode, report_ports, answerAll_eq]
    simp only [hport, if_pos (hall p), settledByHalt_port, mem_portsEndedByHalt]
    rfl
  · rw [enterHalted_eq, reportMode, report_outputs, answerAll_eq]
    simp only [hans, if_pos (hall p), settledByHalt_port]
    rfl
  · refine ⟨(answerOrder (settledByHalt s)).filter (aboutToQuiesce (settledByHalt s)), ?_, ?_⟩
    · rw [← filter_aboutToQuiesce_settledByHalt]
      exact (answerOrder_perm _).filter _
    · obtain ⟨hm, -, hc⟩ := regime_eq_iff.mp (regime_answerAll (settledByHalt s))
      rw [enterHalted_eq, reportMode, report_events, hm, hc, answerAll_eq]
      simp only [hev]
      rfl

theorem linkOutputs_answers (l : Link) (n : Nat) (p : Port) : (linkOutputs l n).answers[p] = [] := by
  unfold linkOutputs
  split <;> simp

theorem linkOutputs_forwarded (l : Link) (n : Nat) : (linkOutputs l n).forwarded = none := by
  unfold linkOutputs
  split <;> rfl

/-- A halt by command, once the transfer is closed: the effects of the halt are those on the state it met. -/
theorem HaltedFrom.closed {s u : State} (h : HaltedFrom (begin s) u) (r : Response) :
    HaltedFrom { s with outputs := transferOutputs s.link } (closeTransfer (within (opening s) u) 192 r) := by
  obtain ⟨hmode, hflags, hcal, hoffer, hports, hans, hevents, hkept⟩ := h
  obtain ⟨ha, has, hw, hps, hf, hptr, hmem, -, -, hser, hfwd⟩ := hkept
  refine ⟨hmode, hflags, hcal, hoffer, hports, fun p => ?_, hevents,
    ⟨ha, has, hw, hps, hf, hptr, hmem, rfl, rfl, hser, ?_⟩⟩
  · rw [transferOutputs, linkOutputs_answers]
    simpa [within, opening, Outputs.silent] using hans p
  · rw [transferOutputs, linkOutputs_forwarded]
    exact hfwd

/-- What LDO carries and shows in a transfer does not depend on what the blocks do. -/
theorem closeTransfer_within_opening (s u : State) (n : Nat) (r : Response) :
    (closeTransfer (within (opening s) u) n r).outputs.ldo = (linkOutputs s.link n).ldo
      ∧ (closeTransfer (within (opening s) u) n r).outputs.presented = (linkOutputs s.link n).presented := by
  have h := congrArg State.outputs (closeTransfer_openTransfer s n r)
  rw [openTransfer_begin] at h
  have hldo := congrArg Outputs.ldo h
  have hpresented := congrArg Outputs.presented h
  exact ⟨hldo, hpresented⟩

/-- Settles O26: HALT in HALTED changes nothing; otherwise it enters HALTED and counts what it settles. -/
theorem haltSettlesEveryWaitingRecord : Obligations.HaltSettlesEveryWaitingRecord := by
  unfold Obligations.HaltSettlesEveryWaitingRecord
  intro s tag h
  refine ⟨fun hm => congrArg Host.Outcome.next (serve_reply h placed_requestHalt (if_pos hm)), fun hm => ?_⟩
  have hreq : requestHalt (begin s)
      = ⟨enterHalted (begin s), .done, [modeCode .halted, byteOf (waitingCount (begin s))]⟩ := if_neg hm
  have hset : settle (begin s) = begin s := settle_of_settled (begin s) h.2
  have hserve := serve_open 0x42 tag placed_requestHalt h.1
  rw [hset, hreq] at hserve
  have hhalt := haltedFrom_enterHalted (begin s)
  generalize enterHalted (begin s) = u at hserve hhalt
  obtain ⟨hldo, hpresented⟩ := closeTransfer_within_opening s u 192
    (response .done tag 0x42 [modeCode .halted, byteOf (waitingCount s)])
  exact ⟨_, congrArg Host.Outcome.next hserve, hhalt.closed _, hldo, hpresented, rfl⟩

end Sys2Proof.Machine
end

section
/-! SUPPORT. The accounts: chains that close no cycle, refills that keep the range of Table 2-1, and charges. -/

namespace Sys2Proof.Machine

/-! ### Refills and countdowns (R30, R31) -/

/-- A refill leaves an account within Table 2-1: a count below 0 is at least −15 (R30). -/
theorem Account.InRange.refilled {a : Account} (h : a.InRange) : (refill a).InRange := by
  obtain ⟨⟨hlow, hhigh⟩, hpreload, hperiod, hcountdown, hoverride⟩ := h
  cases ho : a.override with
  | some v =>
    rw [refill_override a v ho]
    have hv := hoverride v ho
    exact ⟨⟨by dsimp only; omega, by dsimp only; omega⟩, hpreload, hperiod, hcountdown, nofun⟩
  | none =>
    by_cases hc : a.count < 0
    · rw [refill_debt a ho hc]
      exact ⟨⟨by dsimp only; omega, by dsimp only; omega⟩, hpreload, hperiod, hcountdown, hoverride⟩
    · rw [refill_credit a ho (Int.not_lt.mp hc)]
      exact ⟨⟨by dsimp only; omega, by dsimp only; omega⟩, hpreload, hperiod, hcountdown, hoverride⟩

/-- A refill changes the count and the override alone (R30). -/
theorem refill_kept (a : Account) :
    (refill a).preload = a.preload ∧ (refill a).period = a.period ∧ (refill a).countdown = a.countdown
      ∧ (refill a).parent = a.parent ∧ (refill a).exhaust = a.exhaust := by
  unfold refill
  split
  · exact ⟨rfl, rfl, rfl, rfl, rfl⟩
  · split_ifs <;> exact ⟨rfl, rfl, rfl, rfl, rfl⟩

theorem Account.InRange.engageRefilled {a : Account} (h : a.InRange) : (engageRefill a).InRange :=
  { h.refilled with countdown := h.period }

theorem countDown_last {a : Account} (h : a.countdown = 1) : countDown a = { refill a with countdown := a.period } :=
  if_pos (by rw [h])

theorem countDown_running {a : Account} (h : 2 ≤ a.countdown) :
    countDown a = { a with countdown := a.countdown - 1 } :=
  if_neg (by omega)

/-- The two cases of a countdown in range (R31). -/
theorem countDown_cases {a : Account} (h : 1 ≤ a.countdown) :
    (a.countdown = 1 ∧ countDown a = engageRefill a) ∨
    (2 ≤ a.countdown ∧ countDown a = { a with countdown := a.countdown - 1 }) := by
  rcases Nat.eq_or_lt_of_le h with h1 | h2
  · exact .inl ⟨h1.symm, countDown_last h1.symm⟩
  · exact .inr ⟨h2, countDown_running h2⟩

theorem Account.InRange.countedDown {a : Account} (h : a.InRange) : (countDown a).InRange := by
  obtain ⟨hlow, hhigh⟩ := h.countdown
  rcases countDown_cases hlow with ⟨_, e⟩ | ⟨h2, e⟩
  · exact e ▸ h.engageRefilled
  · rw [e]
    exact { h with countdown := ⟨Nat.le_sub_of_add_le h2, Nat.le_trans (Nat.sub_le _ _) hhigh⟩ }

theorem countDown_parent {a : Account} : (countDown a).parent = a.parent := by
  obtain ⟨-, -, -, hp, -⟩ := refill_kept a
  unfold countDown
  split_ifs
  · exact hp
  · rfl

/-- Settles O21: the cases of R30 by the override and the sign of the count, those of R31 by the countdown. -/
theorem refillFollowsItsThreeCases : Obligations.RefillFollowsItsThreeCases := by
  unfold Obligations.RefillFollowsItsThreeCases
  exact fun a => ⟨refill_override a, refill_debt a, refill_credit a, countDown_last, countDown_running,
    Account.InRange.countedDown⟩

/-! ### Chains that close no cycle (R23, R36) -/

section Chains

variable {accounts accounts' : Vector Account 8}

/-- Chains follow the parent links alone. -/
theorem chain_congr (hp : ∀ a : AccountIx, accounts'[a].parent = accounts[a].parent) (a : AccountIx) :
    chain accounts' a = chain accounts a := by
  have h : ∀ (n : Nat) (a : AccountIx), chainFrom accounts' n a = chainFrom accounts n a := fun n => by
    induction n with
    | zero => exact fun _ => rfl
    | succ n ih =>
      intro a
      rw [chainFrom, chainFrom, hp]
      cases accounts[a].parent with
      | none => rfl
      | some p => exact congrArg (a :: ·) (ih p)
  exact h 8 a

/-- The class of a record depends on the parent links, the counts and the exhaust modes alone (R24, R25). -/
theorem standing_congr (hp : ∀ a : AccountIx, accounts'[a].parent = accounts[a].parent)
    (hc : ∀ a : AccountIx, accounts'[a].count = accounts[a].count)
    (he : ∀ a : AccountIx, accounts'[a].exhaust = accounts[a].exhaust) (r : Record) :
    standing accounts' r = standing accounts r := by
  have hb : ∀ a, inBudget accounts' a = inBudget accounts a := fun a => by
    simp only [inBudget, chain_congr hp, hc]
  unfold standing
  cases r.account with
  | none => rfl
  | some a =>
    dsimp only
    rw [hb, he]

theorem Acyclic.of_parents (h : Acyclic accounts)
    (hp : ∀ a : AccountIx, accounts'[a].parent = accounts[a].parent) : Acyclic accounts' :=
  fun a p ha hmem => h a p ((hp a).symm.trans ha) (chain_congr hp p ▸ hmem)

theorem OnChain.trans {a b c : AccountIx} (h : OnChain accounts a b) (h' : OnChain accounts b c) :
    OnChain accounts a c := by
  induction h' with
  | own => exact h
  | up _ hp ih => exact .up ih hp

theorem OnChain.own_or_parent {a x : AccountIx} (h : OnChain accounts a x) :
    x = a ∨ ∃ p, accounts[a].parent = some p ∧ OnChain accounts p x := by
  induction h with
  | own => exact .inl rfl
  | @up x y _ hy ih =>
    rcases ih with rfl | ⟨p, hp, hx⟩
    · exact .inr ⟨y, hy, .own⟩
    · exact .inr ⟨p, hp, .up hx hy⟩

theorem acyclic_iff_onChain :
    Acyclic accounts ↔ ∀ a p : AccountIx, accounts[a].parent = some p → ¬ OnChain accounts p a :=
  forall_congr' fun _ => forall_congr' fun _ => imp_congr_right fun _ => not_congr (mem_chain ..)

/-- Without a cycle no account comes twice on a chain. -/
theorem Acyclic.chainFrom_nodup (h : Acyclic accounts) (n : Nat) (a : AccountIx) :
    (chainFrom accounts n a).Nodup := by
  induction n generalizing a with
  | zero => exact .nil
  | succ n ih =>
    rw [chainFrom]
    cases hp : accounts[a].parent with
    | none => exact List.nodup_singleton a
    | some p =>
      refine List.nodup_cons.mpr ⟨fun hmem => ?_, ih p⟩
      obtain ⟨k, -, hk⟩ := (mem_chainFrom ..).mp hmem
      exact acyclic_iff_onChain.mp h a p hp ((onChain_iff_above ..).mpr ⟨k, hk⟩)

theorem Acyclic.chain_nodup (h : Acyclic accounts) (a : AccountIx) : (chain accounts a).Nodup :=
  h.chainFrom_nodup 8 a

/-- Where two tables differ in the parent of `a` alone, a chain of the one is a chain of the other, or it is one up to
`a`. -/
theorem OnChain.or_through {a : AccountIx} (hp : ∀ b ≠ a, accounts'[b].parent = accounts[b].parent)
    {b c : AccountIx} (h : OnChain accounts' b c) :
    OnChain accounts b c ∨ OnChain accounts b a ∧ OnChain accounts' a c := by
  induction h with
  | own => exact .inl .own
  | @up x y _ hy ih =>
    rcases ih with hx | ⟨ha, hx⟩
    · by_cases hxa : x = a
      · subst hxa
        exact .inr ⟨hx, .up .own hy⟩
      · exact .inl (.up hx ((hp x hxa).symm.trans hy))
    · exact .inr ⟨ha, .up hx hy⟩

theorem OnChain.up_to {a : AccountIx} (hp : ∀ b ≠ a, accounts'[b].parent = accounts[b].parent) {b : AccountIx}
    (h : OnChain accounts' b a) : OnChain accounts b a :=
  (h.or_through hp).elim id And.left

/-- A new parent closes no cycle if the named account does not lie on the parent's chain (R36). -/
theorem Acyclic.reparented (h : Acyclic accounts) {a : AccountIx}
    (hp : ∀ b ≠ a, accounts'[b].parent = accounts[b].parent)
    (hn : ∀ p, accounts'[a].parent = some p → ¬ OnChain accounts p a) : Acyclic accounts' := by
  rw [acyclic_iff_onChain] at h ⊢
  intro b q hq hb
  by_cases hba : b = a
  · subst hba
    exact hn q hq (hb.up_to hp)
  rcases hb.or_through hp with hb' | ⟨hqa, hab⟩
  · exact h b q ((hp b hba).symm.trans hq) hb'
  rcases hab.own_or_parent with rfl | ⟨p, hpa, hpb⟩
  · exact hba rfl
  · have hqa' : OnChain accounts' q a := hqa.up_to fun c hc => (hp c hc).symm
    exact hn p hpa (((hpb.up hq).trans hqa').up_to hp)

end Chains

/-! ### Charges (R27, R28, R139) -/

/-- An account after a charge (R27). -/
def chargedAccount (beats : Nat) (x : Account) : Account := { x with count := x.count - beats }

/-- The charge takes the count from 1 or more to 0 or below (R28). -/
def exhaustedBy (beats : Nat) (x : Account) : Bool := decide (1 ≤ x.count ∧ x.count - (beats : Int) ≤ 0)

/-- The statistics of an account after a charge (R139). -/
def chargedStats (beats : Nat) (x : Account) (y : AccountStats) : AccountStats where
  charged := y.charged + BitVec.ofNat 32 beats
  exhaustions := if exhaustedBy beats x then min (y.exhaustions + 1) 65535 else y.exhaustions

/-- ACCOUNT_EXHAUSTED of an account, as the event unit stores it. -/
def storeExhausted (at_ : Position) (u : EventUnit) (a : AccountIx) : EventUnit :=
  storeIn u at_ { kind := .accountExhausted, account := some a }

theorem chargeOne_eq (beats : Nat) (s : State) (a : AccountIx) :
    chargeOne beats s a = { s with
      accounts := s.accounts.set a (chargedAccount beats s.accounts[a])
      accountStats := s.accountStats.set a (chargedStats beats s.accounts[a] s.accountStats[a])
      events := if exhaustedBy beats s.accounts[a] then storeExhausted (positionOf s.calendar) s.events a
        else s.events } := by
  by_cases h : exhaustedBy beats s.accounts[a] = true
  · have hset : ∀ (v : Vector AccountStats 8) (y z : AccountStats), (v.set a y).set a z = v.set a z := by
      simp
    rw [chargeOne, chargedStats, if_pos h, if_pos (of_decide_eq_true h), if_pos h]
    simp only [report, setEvents, countAccount, setAccount, hset, Vector.getElem_set_self, Fin.getElem_fin]
    rfl
  · rw [chargeOne, chargedStats, if_neg h, if_neg (of_decide_eq_false (Bool.eq_false_iff.mpr h)), if_neg h]
    rfl

section ChargeFold

variable {l : List AccountIx}

/-- A run of charges changes the accounts, their statistics and the event unit alone. -/
theorem foldl_chargeOne_frame (beats : Nat) (l : List AccountIx) (s : State) :
    l.foldl (chargeOne beats) s = { s with
      accounts := (l.foldl (chargeOne beats) s).accounts
      accountStats := (l.foldl (chargeOne beats) s).accountStats
      events := (l.foldl (chargeOne beats) s).events } := by
  induction l generalizing s with
  | nil => rfl
  | cons a l ih =>
    rw [List.foldl_cons, ih (chargeOne beats s a), chargeOne_eq]

theorem foldl_chargeOne_account (hl : l.Nodup) (beats : Nat) (s : State) (x : AccountIx) :
    (l.foldl (chargeOne beats) s).accounts[x] =
      if x ∈ l then chargedAccount beats s.accounts[x] else s.accounts[x] := by
  induction l generalizing s with
  | nil => rfl
  | cons a l ih =>
    obtain ⟨ha, hl⟩ := List.nodup_cons.mp hl
    rw [List.foldl_cons, ih hl, chargeOne_eq]
    by_cases h : a = x
    · subst h
      simp [ha]
    · simp [set_get, h, Ne.symm h]

theorem foldl_chargeOne_stats (hl : l.Nodup) (beats : Nat) (s : State) (x : AccountIx) :
    (l.foldl (chargeOne beats) s).accountStats[x] =
      if x ∈ l then chargedStats beats s.accounts[x] s.accountStats[x] else s.accountStats[x] := by
  induction l generalizing s with
  | nil => rfl
  | cons a l ih =>
    obtain ⟨ha, hl⟩ := List.nodup_cons.mp hl
    rw [List.foldl_cons, ih hl, chargeOne_eq]
    by_cases h : a = x
    · subst h
      simp [ha]
    · simp [set_get, h, Ne.symm h]

/-- The events of a run of charges: ACCOUNT_EXHAUSTED of each account that the charge exhausts, in the run's order. -/
theorem foldl_chargeOne_events (hl : l.Nodup) (beats : Nat) (s : State) :
    (l.foldl (chargeOne beats) s).events =
      (l.filter fun x => exhaustedBy beats s.accounts[x]).foldl (storeExhausted (positionOf s.calendar))
        s.events := by
  induction l generalizing s with
  | nil => rfl
  | cons a l ih =>
    obtain ⟨ha, hl⟩ := List.nodup_cons.mp hl
    have hsame : (l.filter fun x => exhaustedBy beats (chargeOne beats s a).accounts[x])
        = l.filter fun x => exhaustedBy beats s.accounts[x] :=
      List.filter_congr fun x hx => by
        have hne : a ≠ x := fun h => ha (h ▸ hx)
        rw [chargeOne_eq]
        simp [set_get, hne]
    rw [List.foldl_cons, ih hl, hsame, chargeOne_eq, List.filter_cons]
    split_ifs <;> rfl

end ChargeFold

end Sys2Proof.Machine
end

section
/-! SUPPORT. The selector: what each search finds, the order of choice, and the judgement after an account report. -/

namespace Sys2Proof.Machine

/-! ### Searches (R83, R87) -/

section Searches

variable {s : State} {admits : Record → Prop} {f : Record → Bool} {g : Grounds} {b : Bool} {p : Port} {r : Record}

theorem offerOf_candidate (hc : candidate s.ports[p] = some r) :
    offerOf s g b p f = if f r then some ⟨p, r.serial, g, b⟩ else none := by
  rw [offerOf, hc]

theorem offerOf_found (hf : ∀ x, f x = true ↔ admits x) (h : FoundFirst s [p] admits p r) :
    offerOf s g b p f = some ⟨p, r.serial, g, b⟩ := by
  obtain ⟨_, _, -, hc, hr, -⟩ := h
  rw [offerOf_candidate hc, if_pos ((hf r).mpr hr)]

theorem offerOf_none {order : List Port} (hf : ∀ x, f x = true ↔ admits x) (h : FoundNone s order admits)
    (hp : p ∈ order) : offerOf s g b p f = none := by
  cases hc : candidate s.ports[p] with
  | none => rw [offerOf, hc]
  | some x => rw [offerOf_candidate hc, if_neg fun hx => h p hp x hc ((hf x).mp hx)]

/-- An offer names its port's candidate, admitted. -/
theorem offerOf_eq_some {o : Offer} (h : offerOf s g b p f = some o) :
    ∃ x, candidate s.ports[p] = some x ∧ f x = true ∧ o = ⟨p, x.serial, g, b⟩ := by
  unfold offerOf at h
  split at h
  · cases h
  · next x hc =>
    split_ifs at h with hx
    exact ⟨x, hc, hx, (Option.some.inj h).symm⟩

theorem search_found {order : List Port} (hf : ∀ x, f x = true ↔ admits x) (h : FoundFirst s order admits p r) :
    search s g order f = some ⟨p, r.serial, g, true⟩ := by
  obtain ⟨before, after, rfl, hc, hr, hb⟩ := h
  have hnone : before.findSome? (fun q => offerOf s g true q f) = none :=
    List.findSome?_eq_none_iff.mpr fun q hq => offerOf_none hf hb hq
  rw [search, List.findSome?_append, hnone, Option.none_or, List.findSome?_cons, offerOf_candidate hc,
    if_pos ((hf r).mpr hr)]

theorem search_none {order : List Port} (hf : ∀ x, f x = true ↔ admits x) (h : FoundNone s order admits) :
    search s g order f = none :=
  List.findSome?_eq_none_iff.mpr fun _ hq => offerOf_none hf h hq

theorem FoundNone.mono {order order' : List Port} (h : FoundNone s order admits) (hs : order' ⊆ order) :
    FoundNone s order' admits :=
  fun q hq => h q (hs hq)

end Searches

theorem isInBudget_iff (s : State) (r : Record) : isInBudget s r = true ↔ InBudget s.accounts r := by
  rw [isInBudget, beq_iff_eq, standing_inBudget_iff]

theorem isBackground_iff (s : State) (r : Record) : isBackground s r = true ↔ InBackground s.accounts r := by
  rw [isBackground, beq_iff_eq, standing_background_iff]

/-! ### The order of choice (R84 to R90) -/

section Choice

variable {s : State}

theorem closing_iff (c : Calendar) : closing c = true ↔ c.ticks ≤ (currentSlot c).cutoff := decide_eq_true_iff

theorem choose_idle (hm : s.mode = .pass ∨ s.mode = .engaging) :
    choose s = search s .pass (rotationFrom s.pointer) fun _ => true := by
  unfold choose
  rcases hm with hm | hm <;> rw [hm]

theorem choose_halted (hm : s.mode = .halted) : choose s = none := by
  unfold choose
  rw [hm]

theorem choose_closing (hm : s.mode = .engaged) (hc : s.calendar.ticks ≤ (currentSlot s.calendar).cutoff) :
    choose s = none := by
  unfold choose
  rw [hm]
  exact if_pos ((closing_iff _).mpr hc)

theorem choose_quiet (hm : s.mode = .engaged) (ho : (currentSlot s.calendar).owner = .quiet) :
    choose s = none := by
  unfold choose
  rw [hm, ho]
  exact ite_self _

theorem choose_open (hm : s.mode = .engaged) (hc : (currentSlot s.calendar).cutoff < s.calendar.ticks)
    (ho : (currentSlot s.calendar).owner = .everyPort) : choose s = chooseOpen s := by
  unfold choose
  rw [hm, ho]
  exact if_neg fun h => Nat.not_lt.mpr ((closing_iff _).mp h) hc

theorem choose_owned (hm : s.mode = .engaged) (hc : (currentSlot s.calendar).cutoff < s.calendar.ticks) {p : Port}
    (ho : (currentSlot s.calendar).owner = .port p) :
    choose s = chooseOwned s p (currentSlot s.calendar).idle := by
  unfold choose
  rw [hm, ho]
  exact if_neg fun h => Nat.not_lt.mpr ((closing_iff _).mp h) hc

theorem chooseOwned_lend (s : State) (p : Port) :
    chooseOwned s p .lend = (offerOf s .owner false p (isInBudget s)
      <|> search s .lent ((rotationFrom s.pointer).filter (· != p)) (isInBudget s)
      <|> search s .background (rotationFrom s.pointer) (isBackground s)) := rfl

theorem chooseOwned_hold (s : State) (p : Port) :
    chooseOwned s p .hold =
      (offerOf s .owner false p (isInBudget s) <|> offerOf s .background false p (isBackground s)) := rfl

theorem chooseOwned_owner {p : Port} {r : Record} (h : FoundFirst s [p] (InBudget s.accounts) p r)
    (idle : IdlePolicy) : chooseOwned s p idle = some ⟨p, r.serial, .owner, false⟩ := by
  have ho : offerOf s .owner false p (isInBudget s) = _ := offerOf_found (isInBudget_iff s) h
  cases idle with
  | lend =>
    rw [chooseOwned_lend, ho]
    rfl
  | hold =>
    rw [chooseOwned_hold, ho]
    rfl

theorem offerOf_owner_none {p : Port} (h : FoundNone s [p] (InBudget s.accounts)) :
    offerOf s .owner false p (isInBudget s) = none :=
  offerOf_none (isInBudget_iff s) h (List.mem_singleton_self p)

/-- In a HOLD slot whose owner is not in-budget, the owner's background candidate is what is left (R89). -/
theorem chooseOwned_hold_rest {p : Port} (h : FoundNone s [p] (InBudget s.accounts)) :
    chooseOwned s p .hold = offerOf s .background false p (isBackground s) := by
  rw [chooseOwned_hold, offerOf_owner_none h]
  rfl

/-- In a LEND slot whose owner is not in-budget, the borrowers come before the background candidates (R88). -/
theorem chooseOwned_lend_rest {p : Port} (h : FoundNone s [p] (InBudget s.accounts)) :
    chooseOwned s p .lend =
      (search s .lent ((rotationFrom s.pointer).filter (· ≠ p)) (isInBudget s)
        <|> search s .background (rotationFrom s.pointer) (isBackground s)) := by
  rw [chooseOwned_lend, offerOf_owner_none h]
  simp only [ne_eq, decide_not]
  rfl

/-- In a LEND slot with no candidate in-budget, the background candidates are what is left (R88). -/
theorem chooseOwned_lend_background {p : Port} (hp : FoundNone s [p] (InBudget s.accounts))
    (h : FoundNone s (rotationFrom s.pointer) (InBudget s.accounts)) :
    chooseOwned s p .lend = search s .background (rotationFrom s.pointer) (isBackground s) := by
  rw [chooseOwned_lend_rest hp, search_none (isInBudget_iff s) (h.mono (List.filter_subset_self _))]
  rfl

/-- In an OPEN slot with no candidate in-budget, the background candidates are what is left (R90). -/
theorem chooseOpen_background (h : FoundNone s (rotationFrom s.pointer) (InBudget s.accounts)) :
    chooseOpen s = search s .background (rotationFrom s.pointer) (isBackground s) := by
  rw [chooseOpen, search_none (isInBudget_iff s) h]
  rfl

end Choice

/-- Settles O51: each search finds the first admitted candidate, and the searches come in the order of the slot. -/
theorem selectorFollowsTheOrderOfChoice : Obligations.SelectorFollowsTheOrderOfChoice := by
  unfold Obligations.SelectorFollowsTheOrderOfChoice
  intro s rotation slot budget spare
  have hbudget : ∀ r, isInBudget s r = true ↔ budget r := isInBudget_iff s
  have hspare : ∀ r, isBackground s r = true ↔ spare r := isBackground_iff s
  refine ⟨fun hm => ?idle, ?nothing, fun hm hc => ⟨fun ho => ?opened, fun p ho => ?owned⟩⟩
  case idle =>
    rw [choose_idle hm]
    exact ⟨fun q r h => search_found (fun _ => by simp) h, fun h => search_none (fun _ => by simp) h⟩
  case nothing =>
    rintro (hm | ⟨hm, hc | ho⟩)
    · exact choose_halted hm
    · exact choose_closing hm hc
    · exact choose_quiet hm ho
  case opened =>
    rw [choose_open hm hc ho]
    refine ⟨fun q r h => ?_, fun hb => ?_⟩
    · rw [chooseOpen, search_found hbudget (order := rotationFrom s.pointer) h]
      rfl
    · rw [chooseOpen_background hb]
      exact ⟨fun q r h => search_found hspare h, fun h => search_none hspare h⟩
  case owned =>
    rw [choose_owned hm hc ho]
    refine ⟨fun r h => chooseOwned_owner h _, fun hb =>
      ⟨fun hi => ?hold, fun hi => ⟨fun q r h => ?lent, fun hn => ?rest⟩⟩⟩
    case hold =>
      rw [show (currentSlot s.calendar).idle = .hold from hi, chooseOwned_hold_rest hb]
      exact ⟨fun r h => offerOf_found hspare h, fun h => offerOf_none hspare h (List.mem_singleton_self p)⟩
    all_goals rw [show (currentSlot s.calendar).idle = .lend from hi]
    case lent =>
      rw [chooseOwned_lend_rest hb, search_found hbudget (order := (rotationFrom s.pointer).filter (· ≠ p)) h]
      rfl
    case rest =>
      rw [chooseOwned_lend_background hb hn]
      exact ⟨fun q r h => search_found hspare h, fun h => search_none hspare h⟩

end Sys2Proof.Machine
end

section
/-! SUPPORT. The commands of the accounts, and the assertion of RESET#. -/

namespace Sys2Proof.Machine

/-! ### The judgement after an account report (R92) -/

/-- What the selector does after an account report is what the claims call `rejudged`. -/
theorem rejudge_eq (s : State) : rejudge s = rejudged s := by
  have hs : ∀ o, s.offer = o → s = { s with offer := o } := fun o ho => ho ▸ rfl
  unfold rejudge rejudged
  rw [makeOffer_eq]
  congr 1
  split
  · next ho =>
    rw [ho]
    exact hs none ho
  · next o ho =>
    rw [ho, Option.filter_some]
    split_ifs
    · exact hs (some o) ho
    · rfl

/-! ### Operands -/

theorem parent?_parentCode (parent : Option AccountIx) : parent? (parentCode parent) = some parent := by
  cases parent with
  | none => rfl
  | some p =>
    have hne : byteOf p.val ≠ 0xFF := by
      fin_cases p <;> decide
    rw [parentCode, parent?, if_neg hne, account?_byteOf]
    rfl

theorem parent?_none {b : Byte} (h : 8 ≤ b.toNat) (hff : b ≠ 0xFF) : parent? b = none := by
  rw [parent?, if_neg hff, account?, index?_none h]
  rfl

theorem parentFor?_parentCode {a : AccountIx} {parent : Option AccountIx} (h : parent ≠ some a) :
    parentFor? a (parentCode parent) = some parent := by
  rw [parentFor?, parent?_parentCode]
  cases parent with
  | none => rfl
  | some p => exact if_neg fun hp => h (congrArg some hp)

theorem parentFor?_none {a : AccountIx} {b : Byte} (h : 8 ≤ b.toNat) (hff : b ≠ 0xFF) : parentFor? a b = none := by
  rw [parentFor?, parent?_none h hff]

/-- An account is no parent of its own (R35). -/
theorem parentFor?_self (a : AccountIx) : parentFor? a (byteOf a.val) = none := by
  rw [parentFor?, show byteOf a.val = parentCode (some a) from rfl, parent?_parentCode]
  exact if_pos rfl

theorem account?_eq_some {b : Byte} {a : AccountIx} (h : account? b = some a) : b = byteOf a.val := by
  unfold account? index? at h
  split_ifs at h
  cases h
  simp

theorem exhaustMode?_exhaustModeCode (x : ExhaustMode) : exhaustMode? (exhaustModeCode x) = some x := by
  cases x <;> rfl

theorem exhaustMode?_none {b : Byte} (h : 2 ≤ b.toNat) : exhaustMode? b = none := by
  unfold exhaustMode?
  rw [if_neg, if_neg] <;> rintro rfl <;> simp at h

theorem flag?_none {b : Byte} (h : 2 ≤ b.toNat) : flag? b = none := by
  unfold flag?
  rw [if_neg, if_neg] <;> rintro rfl <;> simp at h

/-! ### The commands of the accounts, as a ready link meets them -/

section Commands

variable {s t : State} {tag : Byte} {st : LinkStatus} {res : List Byte}

theorem exec_writeAccount {account period parent exhaust : Byte} {preload : Half} (h : Ready s)
    (e : (checked (account? account) (begin s) fun a => checked (period? period) (begin s) fun n =>
      checked (parentFor? a parent) (begin s) fun p => checked (exhaustMode? exhaust) (begin s) fun x =>
        describeAccount a preload.toNat n p x (begin s)) = ⟨begin t, st, res⟩) :
    exec (.writeAccount tag account preload period parent exhaust) s
      = .next (afterTransfer s.link t (response st tag 0x30 res)) :=
  congrArg Host.Outcome.next (serve_reply h (fun w s => placed_checked w fun a => placed_checked w fun n =>
    placed_checked w fun p => placed_checked w fun x => placed_describeAccount w s a _ n p x) e)

theorem exec_stageOverride {account flag : Byte} {value : Half} (h : Ready s)
    (e : (checked (account? account) (begin s) fun a => checked (flag? flag) (begin s) fun stage =>
      overrideAccount a (if stage then some value.toNat else none) (begin s)) = ⟨begin t, st, res⟩) :
    exec (.stageOverride tag account flag value) s = .next (afterTransfer s.link t (response st tag 0x32 res)) :=
  congrArg Host.Outcome.next (serve_reply h (fun w _ => placed_checked w fun _ => placed_checked w fun _ => rfl) e)

theorem exec_clearOverride {account : Byte} (h : Ready s)
    (e : (checked (account? account) (begin s) fun a => overrideAccount a none (begin s)) = ⟨begin t, st, res⟩) :
    exec (.clearOverride tag account) s = .next (afterTransfer s.link t (response st tag 0x32 res)) :=
  congrArg Host.Outcome.next (serve_reply h (fun w _ => placed_checked w fun _ => rfl) e)

theorem exec_refillNow {account : Byte} (h : Ready s)
    (e : (checked (account? account) (begin s) fun a => refillAtOnce a (begin s)) = ⟨begin t, st, res⟩) :
    exec (.refillNow tag account) s = .next (afterTransfer s.link t (response st tag 0x33 res)) :=
  congrArg Host.Outcome.next (serve_reply h (fun w s => placed_checked w fun a => placed_refillAtOnce w s a) e)

end Commands

/-- A new parent closes a cycle when the named account lies on its chain (R36). -/
theorem closesCycle_iff (accounts : Vector Account 8) (a : AccountIx) (parent : Option AccountIx) :
    closesCycle accounts a parent = true ↔ ∃ p, parent = some p ∧ a ∈ chain accounts p := by
  cases parent with
  | none => simp [closesCycle]
  | some p => simp [closesCycle]

/-- A description that closes no cycle replaces four fields of the account (R35). -/
theorem describeAccount_done {s : State} {a : AccountIx} {preload period : Nat} {parent : Option AccountIx}
    {exhaust : ExhaustMode} (h : ∀ p, parent = some p → a ∉ chain s.accounts p) :
    describeAccount a preload period parent exhaust s =
      ⟨rejudged { s with accounts := s.accounts.set a { s.accounts[a] with preload, period, parent, exhaust } },
        .done, accountResult { s.accounts[a] with preload, period, parent, exhaust }⟩ := by
  have hc : ¬ closesCycle s.accounts a parent = true := fun hc => by
    obtain ⟨p, hp, hmem⟩ := (closesCycle_iff ..).mp hc
    exact h p hp hmem
  exact (if_neg hc).trans (congrArg (Reply.mk · .done _) (rejudge_eq _))

theorem describeAccount_loop {s : State} {a p : AccountIx} {preload period : Nat} {exhaust : ExhaustMode}
    (h : a ∈ chain s.accounts p) : describeAccount a preload period (some p) exhaust s = refuse s .loop :=
  if_pos ((closesCycle_iff ..).mpr ⟨p, rfl, h⟩)

theorem refillAtOnce_engaged {s : State} (hm : s.mode = .engaged) (a : AccountIx) :
    refillAtOnce a s =
      ⟨rejudged { s with accounts := s.accounts.set a (refill s.accounts[a]) }, .done,
        refillResult (refill s.accounts[a])⟩ :=
  (if_neg (not_not.mpr hm)).trans (congrArg (Reply.mk · .done _) (rejudge_eq _))

/-- Settles O19: the operands are checked, then the cycle, and the selector judges its offer. -/
theorem writeAccountDescribesTheAccount : Obligations.WriteAccountDescribesTheAccount := by
  unfold Obligations.WriteAccountDescribesTheAccount
  intro s tag h
  refine ⟨fun a preload period parent x hn hp => ?_, fun account preload period parent exhaust hbad =>
    exec_writeAccount h ?_⟩
  · have hperiod : period? period = some period.toNat := if_neg hn
    refine ⟨fun hcycle => exec_writeAccount h ?_, fun hfree => exec_writeAccount h ?_⟩ <;>
      rw [account?_byteOf, hperiod, checked_some, checked_some, parentFor?_parentCode hp,
        exhaustMode?_exhaustModeCode, checked_some, checked_some]
    · obtain ⟨p, rfl, hmem⟩ := hcycle
      exact describeAccount_loop hmem
    · rw [describeAccount_done (s := begin s) hfree]
      rfl
  · cases ha : account? account with
    | none => rfl
    | some a =>
      obtain rfl := account?_eq_some ha
      rw [checked_some]
      cases hn : period? period with
      | none => rfl
      | some n =>
        rw [checked_some]
        rcases hbad with hbad | rfl | ⟨hbad, hff⟩ | rfl | hbad
        · rw [account?, index?_none hbad] at ha
          cases ha
        · cases hn
        · rw [parentFor?_none hbad hff]
          rfl
        · rw [parentFor?_self]
          rfl
        · rw [exhaustMode?_none hbad]
          cases parentFor? a parent <;> rfl

/-- Settles O20: the override of one account is replaced. -/
theorem overridesAreStagedAndCleared : Obligations.OverridesAreStagedAndCleared := by
  unfold Obligations.OverridesAreStagedAndCleared
  intro s tag h
  refine ⟨fun a value => ?_, fun a => exec_clearOverride h ?_, fun account flag value =>
    ⟨fun hbad => exec_stageOverride h ?_, fun ha => exec_clearOverride h ?_⟩⟩
  · have hbytes : overrideBytes (some value.toNat) = 0x01 :: halfBytes value := by
      simp [overrideBytes, twoBytes, flagByte]
    rw [← hbytes]
    exact exec_stageOverride h (by rw [account?_byteOf]; rfl)
  · rw [account?_byteOf]
    rfl
  · rcases hbad with ha | hf
    · rw [account?, index?_none ha]
      rfl
    · rw [flag?_none hf]
      cases account? account <;> rfl
  · rw [account?, index?_none ha]
    rfl

/-- Settles O22: the mode is judged, the account is refilled by R30, and the selector judges its offer. -/
theorem refillNowRefillsWhileEngaged : Obligations.RefillNowRefillsWhileEngaged := by
  unfold Obligations.RefillNowRefillsWhileEngaged
  intro s tag a h
  refine ⟨fun hm => exec_refillNow h ?_, fun hm => ⟨?_, exec_refillNow h ?_⟩, fun account ha => exec_refillNow h ?_⟩
  · rw [account?_byteOf, checked_some]
    exact if_pos hm
  · obtain ⟨-, -, hcountdown, -⟩ := refill_kept s.accounts[a]
    exact hcountdown
  · rw [account?_byteOf, checked_some, refillAtOnce_engaged (s := begin s) hm]
    rfl
  · rw [account?, index?_none ha]
    rfl

/-! ### RESET# -/

theorem inMask_reset (k : EventKind) : inMask EventUnit.reset.mask k = true ↔ k ≠ .modeChange ∧ k ≠ .switchDone := by
  cases k <;> decide

theorem reset_bank (b : BankIx) : State.reset.calendar.banks[b] = Bank.reset := by
  simp [State.reset, Calendar.reset]

theorem reset_entry (i : SlotIx) : Bank.reset.entries[i] = SlotEntry.reset := by simp [Bank.reset]

/-- Settles O1: the tables hold reset values throughout, and the link keeps the level of LSEL# alone. -/
theorem resetAssertPlacesEveryBlock : Obligations.ResetAssertPlacesEveryBlock := by
  unfold Obligations.ResetAssertPlacesEveryBlock
  intro s
  refine ⟨_, rfl, rfl, rfl, rfl, rfl, rfl, rfl, rfl, rfl, rfl, fun b => ?_, fun a => ⟨reset_account a, ?_⟩,
    fun p => ⟨reset_port p, ?_, reset_window p⟩, rfl, rfl, rfl, rfl, rfl, rfl, rfl, rfl, inMask_reset, rfl, rfl,
    rfl, fun hl => ?_, rfl, rfl, rfl⟩
  · change State.reset.calendar.banks[b].slots = 0 ∧ State.reset.calendar.banks[b].signature = 0xE1F0
      ∧ ∀ i : SlotIx, State.reset.calendar.banks[b].entries[i] = _
    rw [reset_bank]
    exact ⟨rfl, rfl, reset_entry⟩
  · simp [State.reset, AccountStats.reset]
  · simp [State.reset, PortStats.reset]
  · rw [outsideTransfer_link, hl]
    rfl

end Sys2Proof.Machine
end

section
/-! SUPPORT. The take: what it makes of the record, the issue list and the statistics, and the charge of the chain. -/

namespace Sys2Proof.Machine

/-- The state after a take, before the chain is charged and the selector chooses again: the offer is gone, its record is
ISSUED, an entry has joined the list, the beats are counted, the transaction is forwarded, and the pointer has moved if
a rotation search chose the offer (R81, R83, R97, R138). -/
def issued (s : State) (o : Offer) (r : Record) : State :=
  { s with
    offer := none
    ports := s.ports.set o.port { s.ports[o.port] with
      queue := s.ports[o.port].queue.map fun y => if y.serial = o.serial then issueRecord s o y else y }
    memory := { s.memory with issue := s.memory.issue ++ [entryOf s o r] }
    portStats := s.portStats.set o.port (countBeats o.grounds r.txn.beats s.portStats[o.port])
    pointer := if o.rotation then o.port + 1 else s.pointer
    outputs := { s.outputs with forwarded := some r.txn } }

theorem issue_eq (s : State) (o : Offer) (r : Record) :
    issue s o r = offering (chargeTake (issued s o r) o r) := by
  rw [← makeOffer_eq]
  refine congrArg (fun u : State => makeOffer (chargeTake u o r)) ?_
  cases hr : o.rotation <;>
    simp only [issued, hr, countPort, setOutputs, setIssue, changeIn, changeRecord, setQueue, setPort, setOffer,
      if_true, Bool.false_eq_true, if_false]

theorem takeOffer_none {s : State} (ho : s.offer = none) : takeOffer s = s := by
  rw [takeOffer, ho]

theorem takeOffer_found {s : State} {o : Offer} {r : Record} (ho : s.offer = some o)
    (hr : findRecord s o.port o.serial = some r) : takeOffer s = offering (chargeTake (issued s o r) o r) := by
  rw [takeOffer, ho]
  dsimp only
  rw [hr, ← issue_eq]

theorem chargeTake_uncharged (s : State) {o : Offer} (r : Record) (h : chargedGrounds o.grounds = false) :
    chargeTake s o r = s := by
  unfold chargeTake
  rw [h]
  split <;> rfl

theorem chargeTake_charged (s : State) {o : Offer} {r : Record} {a : AccountIx} (hr : r.account = some a)
    (h : chargedGrounds o.grounds = true) : chargeTake s o r = charge s a r.txn.beats := by
  unfold chargeTake
  rw [hr, h]
  rfl

theorem exec_take {s : State} (h : Awake s) : exec .take s = .next (takeOffer (begin s)) :=
  congrArg Host.Outcome.next (onBus_awake s takeOffer h)

/-- Settles O45: a take that is not charged leaves the state `issued`, in which the selector chooses. -/
theorem takeWithoutChargeIssuesTheRecord : Obligations.TakeWithoutChargeIssuesTheRecord := by
  unfold Obligations.TakeWithoutChargeIssuesTheRecord
  refine ⟨fun s h ho => ?_, fun s o r h ho hr hg => ?_⟩
  · rw [exec_take h, takeOffer_none (s := begin s) ho]
    rfl
  · obtain ⟨port, serial, grounds, rotation⟩ := o
    have huncharged : chargedGrounds grounds = false := by
      rcases hg with hg | hg <;> cases hg <;> rfl
    rw [exec_take h, takeOffer_found (s := begin s) ho hr, chargeTake_uncharged _ r huncharged]
    rcases hg with hg | hg <;> cases hg <;> rfl

/-- A charge of a chain without repetitions: what becomes of the accounts, of their statistics and of the event unit;
the rest is as it was (R27, R28, R139). -/
theorem charge_spec {s : State} {a : AccountIx} (h : (chain s.accounts a).Nodup) (beats : Nat) :
    ∃ accounts accountStats events, charge s a beats = { s with accounts, accountStats, events }
      ∧ (∀ x : AccountIx, accounts[x] =
          if x ∈ chain s.accounts a then chargedAccount beats s.accounts[x] else s.accounts[x])
      ∧ (∀ x : AccountIx, accountStats[x] =
          if x ∈ chain s.accounts a then chargedStats beats s.accounts[x] s.accountStats[x] else s.accountStats[x])
      ∧ events = ((chain s.accounts a).filter fun x => exhaustedBy beats s.accounts[x]).foldl
          (storeExhausted (positionOf s.calendar)) s.events :=
  ⟨_, _, _, foldl_chargeOne_frame .., foldl_chargeOne_account h beats s, foldl_chargeOne_stats h beats s,
    foldl_chargeOne_events h beats s⟩

/-- Where no offer stands the selector offers its choice, if the list has room (R79). -/
theorem offering_offer {s : State} (ho : s.offer = none) :
    (offering s).offer = if (offering s).memory.issue.length < (offering s).memory.depth then choose (offering s)
      else none := by
  calc (offering s).offer
      = if s.offer = none ∧ s.memory.issue.length < s.memory.depth then choose s else s.offer := rfl
    _ = if s.memory.issue.length < s.memory.depth then choose s else none := by simp only [ho, true_and]

/-- The statistics of an account after a charge of a chain, field by field. -/
theorem chargedStats_fields (beats : Nat) (x : Account) (y : AccountStats) (c : Prop) [Decidable c] :
    (if c then chargedStats beats x y else y).charged = y.charged + (if c then BitVec.ofNat 32 beats else 0)
      ∧ (c ∧ exhaustedBy beats x = true →
          (if c then chargedStats beats x y else y).exhaustions = min (y.exhaustions + 1) 65535)
      ∧ (¬ (c ∧ exhaustedBy beats x = true) →
          (if c then chargedStats beats x y else y).exhaustions = y.exhaustions) := by
  by_cases hc : c
  · rw [if_pos hc, if_pos hc]
    exact ⟨rfl, fun h => if_pos h.2, fun h => if_neg fun hx => h ⟨hc, hx⟩⟩
  · simp [hc]

/-- Settles O46: the charge of a chain without repetitions, in the state `issued`, and the selector's choice
after it. -/
theorem takeInBudgetChargesTheChain : Obligations.TakeInBudgetChargesTheChain := by
  unfold Obligations.TakeInBudgetChargesTheChain
  intro s o r a h ho hr ha hnodup hg beats charged exhausted
  obtain ⟨port, serial, grounds, rotation⟩ := o
  have hcharged : chargedGrounds grounds = true := by
    rcases hg with hg | hg | hg <;> cases hg <;> rfl
  obtain ⟨accounts, accountStats, events, hcharge, haccount, hstats, hevents⟩ :=
    charge_spec (s := issued (begin s) ⟨port, serial, grounds, rotation⟩ r) hnodup beats
  refine ⟨_, exec_take h, ?_⟩
  rw [takeOffer_found (s := begin s) ho hr, chargeTake_charged _ ha hcharged, hcharge]
  refine ⟨haccount, fun x => ?_, hevents, ?_, rfl, ?_, rfl, offering_offer rfl, rfl, rfl, rfl, rfl, rfl, rfl, rfl, rfl,
    rfl, rfl, rfl⟩
  · have hx : exhausted x ↔ x ∈ charged ∧ exhaustedBy beats s.accounts[x] = true :=
      and_congr_right fun _ => decide_eq_true_iff.symm
    rw [hx]
    exact (hstats x).symm ▸ chargedStats_fields beats s.accounts[x] s.accountStats[x] (x ∈ charged)
  · rcases hg with hg | hg | hg <;> cases hg <;> rfl
  · rcases hg with hg | hg | hg <;> cases hg <;> rfl

end Sys2Proof.Machine
end

section
/-! SUPPORT. Laws that read the blocks alone: whatever the row, its frame keeps them if what its block does
keeps them. -/

namespace Sys2Proof.Machine

/-- The blocks of the regulator: the state apart from the commands that wait, RESET#, the link, what is driven outward,
and the count of free choices. -/
def blocks (s : State) : State :=
  { s with pending := [], inReset := false, link := State.reset.link, outputs := .silent, choices := 0 }

@[simp] theorem blocks_openTransfer (s : State) : blocks (openTransfer s) = blocks s := by
  unfold openTransfer
  split <;> rfl

/-- `P` says something of the blocks alone, and what comes about before a command keeps it. -/
structure BlockLaw (P : State → Prop) : Prop where
  congr : ∀ {s t : State}, P s → blocks t = blocks s → P t
  settle : ∀ {s : State}, P s → P (settle s)

namespace BlockLaw

variable {P : State → Prop} (hP : BlockLaw P) {s : State}

include hP

theorem onBus {act : State → State} (h : P s) (ha : ∀ u, P u → P (act u)) : P (onBus s act) := by
  have hb : P (begin s) := hP.congr h rfl
  unfold Machine.onBus
  split_ifs
  · exact hb
  · exact ha _ (hP.settle hb)

theorem whenDue {due : State → Bool} {act : State → State} (h : P s)
    (ha : ∀ u, P u → due u = true → P (act u)) (hd : due (begin s) = due s) : P (whenDue s due act) := by
  have hb : P (begin s) := hP.congr h rfl
  unfold Machine.whenDue
  split_ifs with hc
  · obtain ⟨-, hdue⟩ := Bool.and_eq_true_iff.mp hc
    exact ha _ hb (hd.trans hdue)
  · exact hb

theorem onLink (h : P s) (n : Nat) (r : Response) : P (onLink s n r) := by
  unfold Machine.onLink
  split_ifs
  · exact hP.congr h (blocks_openTransfer (begin s))
  · exact hP.congr h rfl

theorem serve {code tag : Byte} {act : State → Reply} (h : P s) (ha : ∀ u, P u → P (act u).after) :
    P (serve code tag s act) := by
  have ho : P (openTransfer (begin s)) := hP.congr h (blocks_openTransfer (begin s))
  unfold Machine.serve
  split_ifs
  · exact hP.congr (ha _ (hP.settle ho)) rfl
  · exact hP.congr h rfl

/-- But for the assertion of RESET#, the edges of RESET# and of LSEL# touch no block. -/
theorem edge (h : P s) {c : Instr} (hc : rowKind c = .edge) (hr : c ≠ .resetAssert) :
    ∃ t, exec c s = .next t ∧ P t := by
  cases c with
  | resetAssert => exact absurd rfl hr
  | resetRelease =>
    refine ⟨_, rfl, ?_⟩
    split_ifs <;> exact hP.congr h rfl
  | transferStart =>
    refine ⟨_, rfl, ?_⟩
    split_ifs
    · exact hP.congr h rfl
    · exact hP.congr h rfl
    · exact hP.congr h (blocks_openTransfer (begin s))
  | lselRiseWithoutTransfer =>
    refine ⟨_, rfl, ?_⟩
    split_ifs <;> exact hP.congr h rfl
  | _ => cases hc

/-- What every command keeps, every step keeps. -/
theorem step (hc : ∀ (c : Instr) (u : State), P u → ∃ t, exec c u = .next t ∧ P t) {t : State} (h : P s)
    (e : step s = .next t) : P t := by
  unfold Machine.step at e
  split at e
  · cases e
    exact h
  · next c rest _ =>
    obtain ⟨u, hu, hp⟩ := hc c { s with pending := rest } (hP.congr h rfl)
    rw [hu] at e
    cases e
    exact hp

end BlockLaw

end Sys2Proof.Machine
end

section
/-! SUPPORT. The law of coherence, part by part: the records and their entries, the accounts, and the offer. -/

namespace Sys2Proof.Machine

/-! ### Records and entries -/

/-- The lists that the law reads: the queues, the issue list, and the next serial. -/
def lists (s : State) : Nat × List Entry × (Port → List Record) :=
  (s.serial, s.memory.issue, fun p => s.ports[p].queue)

theorem lists_eq_iff {s t : State} :
    lists t = lists s ↔ t.serial = s.serial ∧ t.memory.issue = s.memory.issue
      ∧ ∀ p : Port, t.ports[p].queue = s.ports[p].queue := by
  simp [lists, funext_iff]

theorem candidate_congr {u v : PortUnit} (h : u.queue = v.queue) : candidate u = candidate v := by
  rw [candidate, h, candidate]

theorem RecordsNamed.of_lists {s t : State} (h : RecordsNamed s) (e : lists t = lists s) : RecordsNamed t := by
  obtain ⟨hs, -, hq⟩ := lists_eq_iff.mp e
  intro p
  rw [hq, hs]
  exact h p

/-- One record of a port's queue has a given serial. -/
theorem RecordsNamed.serial_inj {s : State} (h : RecordsNamed s) {p : Port} {r x : Record}
    (hr : r ∈ s.ports[p].queue) (hx : x ∈ s.ports[p].queue) (e : r.serial = x.serial) : r = x := by
  obtain ⟨hsorted, -⟩ := h p
  exact List.inj_on_of_nodup_map (hsorted.imp Nat.ne_of_lt) hr hx e

theorem RecordsNamed.findRecord_eq {s : State} (h : RecordsNamed s) {p : Port} {r : Record}
    (hr : r ∈ s.ports[p].queue) : findRecord s p r.serial = some r := by
  cases hf : findRecord s p r.serial with
  | none =>
    have := List.find?_eq_none.mp hf r hr
    simp at this
  | some x =>
    have he : x.serial = r.serial := by simpa using List.find?_some hf
    rw [h.serial_inj (List.mem_of_find?_eq_some hf) hr he]

theorem EntriesServe.of_lists {s t : State} (h : EntriesServe s) (e : lists t = lists s) : EntriesServe t := by
  obtain ⟨-, hi, hq⟩ := lists_eq_iff.mp e
  refine ⟨fun x hx hw => ?_, fun x hx => h.abandoned x (hi ▸ hx), hi ▸ h.distinct⟩
  rw [hq]
  exact h.waiting x (hi ▸ hx) hw

/-- Entries may leave the list (R100, R109). -/
theorem EntriesServe.sublist {s : State} (h : EntriesServe s) {l : List Entry} (hl : l.Sublist s.memory.issue) :
    EntriesServe (setIssue s l) where
  waiting x hx := h.waiting x (hl.subset hx)
  abandoned x hx := h.abandoned x (hl.subset hx)
  distinct := h.distinct.sublist hl

/-- An entry keeps its port, its record and its state as it counts ticks (R98). -/
theorem EntriesServe.counted {s : State} (h : EntriesServe s) :
    EntriesServe (setIssue s (s.memory.issue.map countTick)) := by
  have hkept : ∀ x, (countTick x).port = x.port ∧ (countTick x).record = x.record
      ∧ (countTick x).state = x.state := fun x => by
    unfold countTick
    split_ifs <;> exact ⟨rfl, rfl, rfl⟩
  have hmem : ∀ x ∈ s.memory.issue.map countTick, ∃ y ∈ s.memory.issue,
      x.port = y.port ∧ x.record = y.record ∧ x.state = y.state := fun x hx => by
    obtain ⟨y, hy, rfl⟩ := List.mem_map.mp hx
    exact ⟨y, hy, hkept y⟩
  refine ⟨fun x hx hw => ?_, fun x hx ha => ?_, List.pairwise_map.mpr (h.distinct.imp fun {x y} hxy => ?_)⟩
  · obtain ⟨y, hy, hp, hr, hs⟩ := hmem x hx
    simp only [hp, hr]
    exact h.waiting y hy (hs ▸ hw)
  · obtain ⟨y, hy, -, hr, hs⟩ := hmem x hx
    exact hr.trans (h.abandoned y hy (hs ▸ ha))
  · obtain ⟨hpx, hrx, -⟩ := hkept x
    obtain ⟨hpy, hry, -⟩ := hkept y
    rwa [hpx, hrx, hpy, hry]

/-- The list with its oldest due entry abandoned (R104). -/
theorem abandonFirst_append {before after : List Entry} {e : Entry} (hb : ∀ x ∈ before, timeoutDue x = false)
    (he : timeoutDue e = true) :
    abandonFirst (before ++ e :: after) = before ++ { e with state := .abandoned, record := none } :: after := by
  induction before with
  | nil => exact if_pos he
  | cons x before ih =>
    obtain ⟨hx, hb⟩ := List.forall_mem_cons.mp hb
    rw [List.cons_append, abandonFirst, if_neg (Bool.eq_false_iff.mp hx), ih hb, List.cons_append]

/-- An abandoned entry serves no record, and no other entry serves the one that it served (R104). -/
theorem EntriesServe.abandoned_entry {s : State} (h : EntriesServe s) {before after : List Entry} {e : Entry}
    (hl : s.memory.issue = before ++ e :: after) {n : Nat} (hn : e.record = some n) :
    let l := before ++ { e with state := .abandoned, record := none } :: after
    EntriesServe (setIssue s l) ∧ ∀ x ∈ l, x.port = e.port → x.record ≠ some n := by
  intro l
  obtain ⟨hbefore, hafter, hcross⟩ := List.pairwise_append.mp (hl ▸ h.distinct)
  obtain ⟨he, hafter⟩ := List.pairwise_cons.mp hafter
  have hmem : ∀ x ∈ l, x = { e with state := .abandoned, record := none } ∨ x ∈ s.memory.issue := by
    intro x hx
    rw [hl]
    simp only [l, List.mem_append, List.mem_cons] at hx ⊢
    tauto
  refine ⟨⟨fun x hx hw => ?_, fun x hx ha => ?_, List.pairwise_append.mpr ⟨hbefore,
    List.pairwise_cons.mpr ⟨nofun, hafter⟩, fun x hx y hy => ?_⟩⟩, fun x hx hp hxn => ?_⟩
  · rcases hmem x hx with rfl | hx
    · cases hw
    · exact h.waiting x hx hw
  · rcases hmem x hx with rfl | hx
    · rfl
    · exact h.abandoned x hx ha
  · rcases List.mem_cons.mp hy with rfl | hy
    · intro hs _ hx
      rw [hx] at hs
      cases hs
    · exact hcross x hx y (List.mem_cons_of_mem _ hy)
  · rcases List.mem_append.mp hx with hx | hx
    · exact hcross x hx e List.mem_cons_self (hxn ▸ rfl) hp (hxn.trans hn.symm)
    · rcases List.mem_cons.mp hx with rfl | hx
      · cases hxn
      · exact he x hx (hn ▸ rfl) hp.symm (hn.trans hxn.symm)

/-- What a queue of port `p` keeps of the one before it: its records are named in order, and a record that is ISSUED and
served by an entry is in it. -/
structure Requeues (s : State) (p : Port) (q : List Record) : Prop where
  sorted : (q.map Record.serial).Pairwise (· < ·)
  below : ∀ r ∈ q, r.serial < s.serial
  served : ∀ e ∈ s.memory.issue, e.port = p → ∀ r ∈ s.ports[p].queue, r.state = .issued →
    e.record = some r.serial → r ∈ q

theorem RecordsNamed.requeued {s t : State} (hs : t.serial = s.serial)
    (hq : ∀ p : Port, Requeues s p t.ports[p].queue) : RecordsNamed t :=
  fun p => ⟨(hq p).sorted, hs ▸ (hq p).below⟩

theorem EntriesServe.requeued {s t : State} (h : EntriesServe s) (hi : t.memory.issue = s.memory.issue)
    (hq : ∀ p : Port, Requeues s p t.ports[p].queue) : EntriesServe t := by
  refine ⟨fun e he hw => ?_, hi ▸ h.abandoned, hi ▸ h.distinct⟩
  rw [hi] at he
  obtain ⟨r, hr, hn, hs⟩ := h.waiting e he hw
  exact ⟨r, (hq e.port).served e he rfl r hr hs hn, hn, hs⟩

section Requeue

variable {s : State} {p : Port}

theorem requeues_same (h : RecordsNamed s) : Requeues s p s.ports[p].queue :=
  ⟨(h p).1, (h p).2, fun _ _ _ _ hr _ _ => hr⟩

/-- Answering drops records that are not ISSUED (R50). -/
theorem requeues_dropWhile (h : RecordsNamed s) : Requeues s p (s.ports[p].queue.dropWhile answerable) := by
  obtain ⟨hsorted, hbelow⟩ := h p
  have hsub := List.dropWhile_sublist (l := s.ports[p].queue) answerable
  refine ⟨hsorted.sublist (hsub.map _), fun r hr => hbelow r (hsub.subset hr), fun _ _ _ r hr hs _ => ?_⟩
  rw [← List.takeWhile_append_dropWhile (p := answerable) (l := s.ports[p].queue)] at hr
  refine (List.mem_append.mp hr).resolve_left fun ht => ?_
  have ha := List.mem_takeWhile_imp ht
  rw [answerable, hs] at ha
  cases ha

/-- Changes in place that keep the names and leave every record that an entry serves (R54, R123). -/
theorem requeues_map (h : RecordsNamed s) {f : Record → Record} (hf : ∀ r, (f r).serial = r.serial)
    (hserved : ∀ e ∈ s.memory.issue, e.port = p → ∀ r ∈ s.ports[p].queue, r.state = .issued →
      e.record = some r.serial → f r = r) : Requeues s p (s.ports[p].queue.map f) := by
  obtain ⟨hsorted, hbelow⟩ := h p
  refine ⟨?_, fun r hr => ?_, fun e he hp r hr hs hn => ?_⟩
  · rwa [List.map_map, show Record.serial ∘ f = Record.serial from funext hf]
  · obtain ⟨x, hx, rfl⟩ := List.mem_map.mp hr
    exact hf x ▸ hbelow x hx
  · exact List.mem_map.mpr ⟨r, hr, hserved e he hp r hr hs hn⟩

theorem find_waiting_dropWhile (l : List Record) : (l.dropWhile answerable).find? isWaiting = l.find? isWaiting := by
  induction l with
  | nil => rfl
  | cons r l ih =>
    rw [List.dropWhile_cons]
    split_ifs with h
    · have hw : isWaiting r = false := by
        cases hr : r.state <;> simp_all [answerable, isWaiting]
      rw [ih, List.find?_cons, hw]
    · rfl

/-- The oldest WAITING record stays so under changes in place that leave it and make no other record WAITING. -/
theorem find_waiting_map {f : Record → Record} (hf : ∀ r, (f r).state = .waiting → r.state = .waiting)
    {l : List Record} {r : Record} (h : l.find? isWaiting = some r) (hr : f r = r) :
    (l.map f).find? isWaiting = some r := by
  obtain ⟨hw, before, after, rfl, hb⟩ := List.find?_eq_some_iff_append.mp h
  refine List.find?_eq_some_iff_append.mpr ⟨hw, before.map f, after.map f, by simp [hr], fun x hx => ?_⟩
  obtain ⟨y, hy, rfl⟩ := List.mem_map.mp hx
  have hy := hb y hy
  simp only [isWaiting, Bool.not_eq_true', beq_eq_false_iff_ne] at hy ⊢
  exact fun h => hy (hf y h)

end Requeue

/-! ### The offer (R82, R92) -/

/-- A record may be offered on given grounds in the mode and with the accounts of the state. -/
def Admissible (s : State) (g : Grounds) (r : Record) : Prop :=
  s.mode ≠ .halted
    ∧ (s.mode = .engaged → requiredStanding g = some (standing s.accounts r))
    ∧ (s.mode = .pass ∨ s.mode = .engaging → g = .pass)

/-- The offer is its port's candidate, and may be offered. -/
def Stands (s : State) (o : Offer) : Prop :=
  ∃ r, candidate s.ports[o.port] = some r ∧ r.serial = o.serial ∧ Admissible s o.grounds r

theorem offerStands_iff (s : State) : OfferStands s ↔ ∀ o, s.offer = some o → Stands s o := Iff.rfl

theorem offerStands_of_none {s : State} (h : s.offer = none) : OfferStands s := fun o ho => by
  rw [h] at ho
  cases ho

theorem Stands.of_candidate {s t : State} {o : Offer} (h : Stands s o) (hm : t.mode = s.mode)
    (ha : t.accounts = s.accounts)
    (hc : ∀ r, candidate s.ports[o.port] = some r → r.serial = o.serial → candidate t.ports[o.port] = some r) :
    Stands t o := by
  obtain ⟨r, hr, hn, hadm⟩ := h
  refine ⟨r, hc r hr hn, hn, ?_⟩
  rw [Admissible, hm, ha]
  exact hadm

theorem OfferStands.of_candidates {s t : State} (h : OfferStands s) (hm : t.mode = s.mode)
    (ha : t.accounts = s.accounts) (ho : t.offer = s.offer)
    (hc : ∀ o r, s.offer = some o → candidate s.ports[o.port] = some r → r.serial = o.serial →
      candidate t.ports[o.port] = some r) : OfferStands t :=
  fun o hto => ((offerStands_iff s).mp h o (ho ▸ hto)).of_candidate hm ha fun r => hc o r (ho ▸ hto)

/-- The grounds of an offer of a classified record hold only while its class is the one that they require (R92). -/
theorem groundsHold_required {s : State} {o : Offer} {r : Record} (hr : findRecord s o.port o.serial = some r)
    (hg : o.grounds ≠ .pass) (h : groundsHold s o = true) :
    requiredStanding o.grounds = some (standing s.accounts r) := by
  have hclass : ∀ c : Standing, (standing s.accounts r == c) = true → some c = some (standing s.accounts r) :=
    fun c hc => congrArg some (beq_iff_eq.mp hc).symm
  unfold groundsHold at h
  rw [hr] at h
  cases hgr : o.grounds <;> rw [hgr] at h
  case pass => exact absurd hgr hg
  all_goals exact hclass _ h

section Choice

variable {s : State} {g : Grounds} {b : Bool} {f : Record → Bool} {o : Offer}

theorem stands_of_offerOf {p : Port} (h : offerOf s g b p f = some o) (hf : ∀ r, f r = true → Admissible s g r) :
    Stands s o := by
  obtain ⟨r, hc, hr, rfl⟩ := offerOf_eq_some h
  exact ⟨r, hc, rfl, hf r hr⟩

theorem stands_of_search {order : List Port} (h : search s g order f = some o)
    (hf : ∀ r, f r = true → Admissible s g r) : Stands s o := by
  obtain ⟨p, -, hp⟩ := List.exists_of_findSome?_eq_some h
  exact stands_of_offerOf hp hf

theorem admissible_idle (hm : s.mode = .pass ∨ s.mode = .engaging) (r : Record) : Admissible s .pass r := by
  refine ⟨fun h => ?_, fun h => ?_, fun _ => rfl⟩ <;> rcases hm with hm | hm <;> rw [hm] at h <;> cases h

theorem admissible_engaged (hm : s.mode = .engaged) {r : Record}
    (h : requiredStanding g = some (standing s.accounts r)) :
    Admissible s g r := by
  refine ⟨fun hh => ?_, fun _ => h, fun hi => ?_⟩
  · rw [hm] at hh
    cases hh
  · rcases hi with hi | hi <;> rw [hm] at hi <;> cases hi

theorem admissible_of_inBudget (hm : s.mode = .engaged) (hg : requiredStanding g = some .inBudget) {r : Record}
    (h : isInBudget s r = true) : Admissible s g r :=
  admissible_engaged hm (hg.trans (congrArg some (beq_iff_eq.mp h).symm))

theorem admissible_of_background (hm : s.mode = .engaged) {r : Record} (h : isBackground s r = true) :
    Admissible s .background r :=
  admissible_engaged hm (congrArg some (beq_iff_eq.mp h).symm)

theorem stands_of_chooseOpen (hm : s.mode = .engaged) (h : chooseOpen s = some o) : Stands s o := by
  rcases (Option.orElse_eq_some ..).mp h with h | ⟨-, h⟩
  · exact stands_of_search h fun _ => admissible_of_inBudget hm rfl
  · exact stands_of_search h fun _ => admissible_of_background hm

theorem stands_of_chooseOwned (hm : s.mode = .engaged) {p : Port} {idle : IdlePolicy}
    (h : chooseOwned s p idle = some o) : Stands s o := by
  cases idle with
  | lend =>
    rw [chooseOwned_lend, Option.orElse_eq_some, Option.orElse_eq_some] at h
    rcases h with h | ⟨-, h | ⟨-, h⟩⟩
    · exact stands_of_offerOf h fun _ => admissible_of_inBudget hm rfl
    · exact stands_of_search h fun _ => admissible_of_inBudget hm rfl
    · exact stands_of_search h fun _ => admissible_of_background hm
  | hold =>
    rw [chooseOwned_hold, Option.orElse_eq_some] at h
    rcases h with h | ⟨-, h⟩
    · exact stands_of_offerOf h fun _ => admissible_of_inBudget hm rfl
    · exact stands_of_offerOf h fun _ => admissible_of_background hm

/-- Whatever the order of choice names is its port's candidate and may be offered (R84 to R90). -/
theorem stands_of_choose (h : choose s = some o) : Stands s o := by
  have hidle : s.mode = .pass ∨ s.mode = .engaging → Stands s o := fun hm => by
    rw [choose_idle hm] at h
    exact stands_of_search h fun r _ => admissible_idle hm r
  cases hm : s.mode with
  | pass => exact hidle (.inl hm)
  | engaging => exact hidle (.inr hm)
  | halted =>
    rw [choose_halted hm] at h
    cases h
  | engaged =>
    by_cases hc : s.calendar.ticks ≤ (currentSlot s.calendar).cutoff
    · rw [choose_closing hm hc] at h
      cases h
    cases ho : (currentSlot s.calendar).owner with
    | quiet =>
      rw [choose_quiet hm ho] at h
      cases h
    | everyPort => exact stands_of_chooseOpen hm (choose_open hm (Nat.not_le.mp hc) ho ▸ h)
    | port p => exact stands_of_chooseOwned hm (choose_owned hm (Nat.not_le.mp hc) ho ▸ h)

end Choice

end Sys2Proof.Machine
end

section
/-! SUPPORT. Every operation of the blocks keeps the law of coherence. -/

namespace Sys2Proof.Machine

namespace Coherent

variable {s t : State}

/-! ### What the law reads -/

theorem of_lists (h : Coherent s) (ha : t.accounts = s.accounts) (hl : lists t = lists s) (ho : OfferStands t) :
    Coherent t :=
  ⟨ha ▸ h.acyclic, ha ▸ h.accounts, h.records.of_lists hl, h.entries.of_lists hl, ho⟩

/-- Where no offer stands, the law does not read the mode. -/
theorem unoffered (h : Coherent s) (ha : t.accounts = s.accounts) (hl : lists t = lists s) (ho : t.offer = none) :
    Coherent t :=
  h.of_lists ha hl (offerStands_of_none ho)

theorem of_offer (h : Coherent s) (hm : t.mode = s.mode) (ha : t.accounts = s.accounts) (ho : t.offer = s.offer)
    (hl : lists t = lists s) : Coherent t := by
  obtain ⟨-, -, hq⟩ := lists_eq_iff.mp hl
  exact h.of_lists ha hl (h.offer.of_candidates hm ha ho fun o r _ hr _ => (candidate_congr (hq o.port)).trans hr)

/-- A change of the queues: the offer's record stays its port's candidate, if an offer stands. -/
theorem requeued (h : Coherent s) (hm : t.mode = s.mode) (ha : t.accounts = s.accounts) (ho : t.offer = s.offer)
    (hs : t.serial = s.serial) (hi : t.memory.issue = s.memory.issue)
    (hq : ∀ p : Port, Requeues s p t.ports[p].queue)
    (hc : ∀ o r, s.offer = some o → candidate s.ports[o.port] = some r → r.serial = o.serial →
      candidate t.ports[o.port] = some r) : Coherent t :=
  ⟨ha ▸ h.acyclic, ha ▸ h.accounts, .requeued hs hq, h.entries.requeued hi hq, h.offer.of_candidates hm ha ho hc⟩

theorem reissued (h : Coherent s) {l : List Entry} (hl : EntriesServe (setIssue s l)) : Coherent (setIssue s l) :=
  ⟨h.acyclic, h.accounts, h.records, hl, h.offer⟩

theorem withdrawn (h : Coherent s) : Coherent (withdraw s) := h.unoffered rfl rfl rfl

theorem reported (h : Coherent s) (r : Report) : Coherent (report s r) := h.of_offer rfl rfl rfl rfl

/-! ### Ports -/

theorem lists_setPort (s : State) (p : Port) (u : PortUnit) (hu : u.queue = s.ports[p].queue) :
    lists (setPort s p u) = lists s := by
  refine lists_eq_iff.mpr ⟨rfl, rfl, fun q => ?_⟩
  rw [setPort_ports, Fin.getElem_fin, set_get]
  split_ifs with h
  · exact h ▸ hu
  · rfl

/-- A port whose queue is as it was. -/
theorem after_setPort (h : Coherent s) (p : Port) {u : PortUnit} (hu : u.queue = s.ports[p].queue) :
    Coherent (setPort s p u) :=
  h.of_offer rfl rfl rfl (lists_setPort s p u hu)

theorem after_setPortState (h : Coherent s) (p : Port) (st : PortState) : Coherent (setPortState s p st) :=
  h.after_setPort p (u := { s.ports[p] with state := st }) rfl

theorem after_setArrival (h : Coherent s) (p : Port) (t : Option Txn) : Coherent (setArrival s p t) :=
  h.after_setPort p (u := { s.ports[p] with arrival := t }) rfl

theorem after_setQueue (h : Coherent s) {p : Port} {q : List Record} (hq : Requeues s p q)
    (hc : ∀ o r, s.offer = some o → o.port = p → candidate s.ports[p] = some r → r.serial = o.serial →
      q.find? isWaiting = some r) : Coherent (setQueue s p q) := by
  refine h.requeued rfl rfl rfl rfl rfl (fun x => ?_) fun o r ho hr hn => ?_
  · rw [Fin.getElem_fin, port_setQueue]
    split_ifs with hx
    · exact hx ▸ hq
    · exact requeues_same h.records
  · rw [Fin.getElem_fin, port_setQueue]
    split_ifs with hx
    · subst hx
      exact hc o r ho rfl hr hn
    · exact hr

/-- Answering drops answerable records from the front: no candidate, and none that an entry serves (R48, R50). -/
theorem after_answerFront (h : Coherent s) (p : Port) : Coherent (answerFront s p) := by
  have e : answerFront s p = answered s p s.ports[p].queue := answerFront_eq s p
  have hq : ∀ q : Port, (answerFront s p).ports[q].queue =
      if p = q then s.ports[q].queue.dropWhile answerable else s.ports[q].queue := fun q => by
    rw [answerFront_port]
    split_ifs with hx
    · exact hx ▸ rfl
    · rfl
  refine h.requeued (e ▸ rfl) (e ▸ rfl) (e ▸ rfl) (e ▸ rfl) (e ▸ rfl) (fun q => ?_) fun o r _ hr _ => ?_
  · rw [hq]
    split_ifs
    · exact requeues_dropWhile h.records
    · exact requeues_same h.records
  · rw [candidate, hq]
    split_ifs
    · exact (find_waiting_dropWhile _).trans hr
    · exact hr

theorem after_foldl {β : Type} {f : State → β → State} (hf : ∀ u b, Coherent u → Coherent (f u b)) (l : List β)
    (h : Coherent s) : Coherent (l.foldl f s) := by
  induction l generalizing s with
  | nil => exact h
  | cons b l ih => exact ih (hf s b h)

/-- A record of a port that no entry serves and that is not the offer's may change its state, but not to WAITING. -/
theorem after_changeIn (h : Coherent s) {p : Port} {n : Nat} {f : Record → Record}
    (hserial : ∀ r, (f r).serial = r.serial) (hstate : ∀ r, (f r).state ≠ .waiting)
    (hentry : ∀ e ∈ s.memory.issue, e.port = p → e.record ≠ some n)
    (hoffer : ∀ o, s.offer = some o → o.port = p → o.serial ≠ n) : Coherent (changeIn s p n f) := by
  refine h.after_setQueue (requeues_map h.records (fun r => ?_) fun e he hp r _ _ hn => if_neg fun hr => ?_)
    fun o r ho hp hr hn => find_waiting_map (fun x hx => ?_) hr (if_neg fun hrn => ?_)
  · split_ifs
    · exact hserial r
    · rfl
  · exact hentry e he hp (hn.trans (congrArg some hr))
  · split_ifs at hx
    · exact absurd hx (hstate x)
    · exact hx
  · exact hoffer o ho hp (hn.symm.trans hrn)

/-- The offer's record waits, so it is no ISSUED one. -/
theorem offer_ne_issued (h : Coherent s) {p : Port} {r : Record} (hr : r ∈ s.ports[p].queue)
    (hs : r.state = .issued) (o : Offer) (ho : s.offer = some o) (hp : o.port = p) : o.serial ≠ r.serial := by
  subst hp
  obtain ⟨x, hx, hn, -⟩ := h.offer o ho
  obtain ⟨hmem, hw⟩ := candidate_mem hx
  intro e
  rw [h.records.serial_inj hmem hr (hn.trans e), hs] at hw
  cases hw

/-! ### Acceptance (R45, R46) -/

theorem after_appendRecord (h : Coherent s) (p : Port) (t : Txn) (st : RecordState) (a : Option AccountIx)
    (w : Option WindowIx) : Coherent (appendRecord s p t st a w) := by
  have hnext : Coherent { s with serial := s.serial + 1 } :=
    ⟨h.acyclic, h.accounts, fun q => ⟨(h.records q).1, fun r hr => Nat.lt_succ_of_lt ((h.records q).2 r hr)⟩,
      ⟨h.entries.waiting, h.entries.abandoned, h.entries.distinct⟩, h.offer⟩
  obtain ⟨hsorted, hbelow⟩ := h.records p
  refine hnext.after_setQueue ⟨?_, fun r hr => ?_, fun _ _ _ r hr _ _ => List.mem_append_left _ hr⟩
    fun o r _ _ hr _ => ?_
  · rw [List.map_append]
    refine List.pairwise_append.mpr ⟨hsorted, List.pairwise_singleton .., fun n hn m hm => ?_⟩
    obtain ⟨x, hx, rfl⟩ := List.mem_map.mp hn
    rw [List.mem_singleton.mp hm]
    exact hbelow x hx
  · rcases List.mem_append.mp hr with hr | hr
    · exact Nat.lt_succ_of_lt (hbelow r hr)
    · rw [List.mem_singleton.mp hr]
      exact Nat.lt_succ_self s.serial
  · rw [List.find?_append, show List.find? isWaiting _ = some r from hr, Option.some_or]

theorem after_appendRefused (h : Coherent s) (p : Port) (t : Txn) (st : Status) (w : Option WindowIx) :
    Coherent (appendRefused s p t st w) :=
  (h.after_appendRecord p t (.refused st) none w).of_offer rfl rfl rfl rfl

theorem after_strike (h : Coherent s) (p : Port) : Coherent (strike s p) := by
  have hp : Coherent (setPort s p { s.ports[p] with
      strikes := min (s.ports[p].strikes + 1) Config.strikeCeiling }) := h.after_setPort p rfl
  simp only [strike, fenceTest]
  split_ifs
  · exact (hp.after_setPortState p .fenced).reported _
  · exact hp

theorem after_refuseWithStrike (h : Coherent s) (p : Port) (t : Txn) (st : Status) (w : Option WindowIx)
    (r : Report) : Coherent (refuseWithStrike s p t st w r) :=
  ((h.after_appendRefused p t st w).reported r).after_strike p

theorem after_acceptSteps (h : Coherent s) (p : Port) (t : Txn) : Coherent (acceptSteps s p t) := by
  have hw : Coherent (decideByWindows s p t) := by
    unfold decideByWindows
    split
    · exact h.after_refuseWithStrike ..
    · exact h.after_refuseWithStrike ..
    · exact h.after_appendRecord ..
  unfold acceptSteps
  split_ifs
  · exact h.after_appendRefused ..
  · exact h.after_appendRefused ..
  · exact h.after_refuseWithStrike ..
  · exact h.after_appendRefused ..
  · exact hw
  · exact h.after_appendRecord ..

/-! ### The selector (R79, R92) -/

theorem after_offering (h : Coherent s) : Coherent (offering s) := by
  refine h.of_lists rfl rfl fun o ho => ?_
  change (if s.offer = none ∧ s.memory.issue.length < s.memory.depth then choose s else s.offer) = some o at ho
  split_ifs at ho
  · exact stands_of_choose ho
  · exact h.offer o ho

theorem after_makeOffer (h : Coherent s) : Coherent (makeOffer s) := makeOffer_eq s ▸ h.after_offering

theorem after_accept (h : Coherent s) (p : Port) (t : Txn) : Coherent (accept s p t) :=
  ((h.after_acceptSteps p t).after_answerFront p).after_makeOffer

theorem after_present (h : Coherent s) (p : Port) (t : Txn) : Coherent (present p t s) := by
  unfold present
  split_ifs
  · exact h
  · exact h.after_setArrival p (some t)
  · exact h.after_accept p t

theorem after_takeHeld (h : Coherent s) (p : Port) : Coherent (takeHeld s p) := by
  unfold takeHeld
  split
  · exact h
  · split_ifs
    · exact h
    · exact (h.after_setArrival p none).after_accept p _

/-- New accounts in which no chain is closed: the offer is judged again (R26, R92). -/
theorem after_rejudged (h : Coherent s) {accounts : Vector Account 8} (hc : Acyclic accounts)
    (ha : ∀ a : AccountIx, accounts[a].InRange) : Coherent (rejudged { s with accounts }) := by
  refine Coherent.after_offering ⟨hc, ha, h.records, ⟨h.entries.waiting, h.entries.abandoned, h.entries.distinct⟩,
    fun o ho => ?_⟩
  obtain ⟨ho, hg⟩ := Option.filter_eq_some_iff.mp ho
  obtain ⟨r, hr, hn, hm, he, hi⟩ := h.offer o ho
  obtain ⟨hmem, -⟩ := candidate_mem hr
  refine ⟨r, hr, hn, hm, fun heng => ?_, hi⟩
  refine groundsHold_required (s := { s with accounts }) (hn ▸ h.records.findRecord_eq hmem) (fun hp => ?_) hg
  have := he heng
  rw [hp] at this
  cases this

end Coherent

end Sys2Proof.Machine
end

section
/-! SUPPORT. The timeouts, the end of the drain, the halt, the tick, the take and the completion keep the law of
coherence, and so does every command. -/

namespace Sys2Proof.Machine

namespace Coherent

variable {s t : State}

/-! ### Accounts -/

/-- Accounts whose parent links are as they were close no cycle, and where no offer stands nothing else reads them. -/
theorem reaccounted (h : Coherent s) (hp : ∀ a : AccountIx, t.accounts[a].parent = s.accounts[a].parent)
    (ha : ∀ a : AccountIx, t.accounts[a].InRange) (hl : lists t = lists s) (ho : t.offer = none) : Coherent t :=
  ⟨h.acyclic.of_parents hp, ha, h.records.of_lists hl, h.entries.of_lists hl, offerStands_of_none ho⟩

/-- One account is replaced, and no parent link changes: the offer is judged again. -/
theorem after_account (h : Coherent s) {a : AccountIx} {x : Account} (hx : x.InRange)
    (hc : Acyclic (s.accounts.set a x)) : Coherent (rejudged { s with accounts := s.accounts.set a x }) := by
  refine h.after_rejudged hc fun b => ?_
  rw [Fin.getElem_fin, set_get]
  split_ifs
  · exact hx
  · exact h.accounts b

theorem set_parent {accounts : Vector Account 8} {a : AccountIx} {x : Account}
    (hx : x.parent = accounts[a].parent) (b : AccountIx) : (accounts.set a x)[b].parent = accounts[b].parent := by
  rw [Fin.getElem_fin, set_get]
  split_ifs with hb
  · exact hb ▸ hx
  · rfl

theorem after_refillAtOnce (h : Coherent s) (a : AccountIx) : Coherent (refillAtOnce a s).after := by
  by_cases hm : s.mode = .engaged
  · rw [refillAtOnce_engaged hm]
    obtain ⟨-, -, -, hp, -⟩ := refill_kept s.accounts[a]
    exact h.after_account (h.accounts a).refilled (h.acyclic.of_parents (set_parent hp))
  · rw [refillAtOnce, if_pos hm]
    exact h

theorem after_describeAccount (h : Coherent s) {a : AccountIx} {preload period : Nat} {parent : Option AccountIx}
    {exhaust : ExhaustMode} (hpre : preload ≤ 65535) (hper : 1 ≤ period ∧ period ≤ 255) :
    Coherent (describeAccount a preload period parent exhaust s).after := by
  by_cases hc : ∀ p, parent = some p → a ∉ chain s.accounts p
  · rw [describeAccount_done hc]
    refine h.after_account { h.accounts a with preload := hpre, period := hper }
      (h.acyclic.reparented (a := a) (fun b hb => ?_) fun p hp hmem => hc p ?_ ((mem_chain ..).mpr hmem))
    · rw [Fin.getElem_fin, set_get_other _ _ hb.symm]
      rfl
    · simpa using hp
  · push Not at hc
    obtain ⟨p, rfl, hmem⟩ := hc
    rw [describeAccount_loop hmem]
    exact h

/-- The override is no part of what a standing or an offer reads (R38). -/
theorem after_overrideAccount (h : Coherent s) (a : AccountIx) {v : Option Nat} (hv : ∀ n, v = some n → n ≤ 65535) :
    Coherent (overrideAccount a v s).after := by
  have hget : ∀ b : AccountIx, (overrideAccount a v s).after.accounts[b] =
      if a = b then { s.accounts[a] with override := v } else s.accounts[b] := fun b => set_get ..
  have hkept : ∀ {α : Type} (φ : Account → α), (∀ x, φ { x with override := v } = φ x) →
      ∀ b : AccountIx, φ (overrideAccount a v s).after.accounts[b] = φ s.accounts[b] := fun φ hφ b => by
    rw [hget]
    split_ifs with hb
    · exact hb ▸ hφ _
    · rfl
  have hp := hkept Account.parent fun _ => rfl
  have hs := standing_congr hp (hkept Account.count fun _ => rfl) (hkept Account.exhaust fun _ => rfl)
  refine ⟨h.acyclic.of_parents hp, fun b => ?_, h.records, ⟨h.entries.waiting, h.entries.abandoned,
    h.entries.distinct⟩, fun o ho => ?_⟩
  · rw [hget]
    split_ifs
    · exact { h.accounts a with override := hv }
    · exact h.accounts b
  · obtain ⟨r, hr, hn, hadm⟩ := h.offer o ho
    rw [← hs] at hadm
    exact ⟨r, hr, hn, hadm⟩

/-! ### Timeouts and the halt -/

theorem after_settledByHalt (h : Coherent s) : Coherent (settledByHalt s) := by
  have hidle : Coherent { s with mode := .halted, offer := none } := h.unoffered rfl rfl rfl
  have hq : ∀ p : Port, (settledByHalt s).ports[p].queue = s.ports[p].queue.map haltedRecord := fun p =>
    congrArg PortUnit.queue (settledByHalt_port s p)
  refine hidle.requeued rfl rfl rfl rfl rfl (fun p => ?_)
    fun o _ ho => absurd ho.symm (Option.some_ne_none o)
  rw [hq]
  refine requeues_map (f := haltedRecord) hidle.records (fun r => ?_) fun _ _ _ r _ hs _ => if_neg fun hw => ?_
  · unfold haltedRecord
    split_ifs <;> rfl
  · rw [hs] at hw
    cases hw

theorem after_enterHalted (h : Coherent s) : Coherent (enterHalted s) := by
  have hall : Coherent (answerAll (settledByHalt s)) := by
    rw [answerAll_eq]
    exact (after_foldl (fun _ p hu => hu.after_answerFront p) _ h.after_settledByHalt).of_offer rfl rfl rfl rfl
  rw [enterHalted_eq]
  exact hall.reported _

/-- The record of a waiting entry settles once the entry serves it no longer (R101, R104). -/
theorem after_settleRecord (h : Coherent s) {l : List Entry} {e : Entry} {f : Record → Record}
    (he : e ∈ s.memory.issue) (hw : e.state = .waiting) (hl : EntriesServe (setIssue s l))
    (hfree : ∀ x ∈ l, x.port = e.port → x.record ≠ e.record) (hserial : ∀ r, (f r).serial = r.serial)
    (hstate : ∀ r, (f r).state ≠ .waiting) : Coherent (settleRecord (setIssue s l) e f) := by
  obtain ⟨r, hr, hn, hs⟩ := h.entries.waiting e he hw
  rw [settleRecord, hn]
  exact (h.reissued hl).after_changeIn hserial hstate (fun x hx hp => hn ▸ hfree x hx hp) fun o ho hp =>
    h.offer_ne_issued hr hs o ho hp

theorem after_timeOut (h : Coherent s) : Coherent (timeOut s) := by
  unfold timeOut
  split
  · exact h
  · next e he =>
    obtain ⟨hdue, before, after, hl, hb⟩ := List.find?_eq_some_iff_append.mp he
    have hmem := List.mem_of_find?_eq_some he
    obtain ⟨hw, -, -⟩ := (timeoutDue_iff e).mp hdue
    obtain ⟨r, -, hn, -⟩ := h.entries.waiting e hmem hw
    obtain ⟨hserve, hfree⟩ := h.entries.abandoned_entry hl hn
    have hab : abandonFirst s.memory.issue = _ :=
      hl ▸ abandonFirst_append (fun x hx => by simpa using hb x hx) hdue
    have hset : Coherent (settleRecord (setIssue s (abandonFirst s.memory.issue)) e
        fun r => { r with state := .done .timeout }) := by
      rw [hab]
      exact h.after_settleRecord hmem hw hserve (hn ▸ hfree) (fun _ => rfl) (fun _ => nofun)
    have hrep := hset.reported (downstreamReport .downstreamTimeout e.port (recordOf s e))
    split_ifs
    · exact hrep.after_enterHalted
    · exact (hrep.after_answerFront e.port).after_makeOffer

theorem after_timeOutAll (h : Coherent s) (n : Nat) : Coherent (timeOutAll n s) := by
  induction n generalizing s with
  | zero => exact h
  | succ n ih => exact ih h.after_timeOut

/-! ### The drain, and the modes -/

/-- An empty regulator has no record to offer. -/
theorem offer_none_of_drained (h : Coherent s) (hd : drained s = true) : s.offer = none := by
  obtain ⟨hq, -⟩ := (drained_iff s).mp hd
  refine Option.eq_none_iff_forall_ne_some.mpr fun o ho => ?_
  obtain ⟨r, hr, -⟩ := h.offer o ho
  obtain ⟨hmem, -⟩ := candidate_mem hr
  rw [hq] at hmem
  cases hmem

theorem offer_none_of_halted (h : Coherent s) (hm : s.mode = .halted) : s.offer = none :=
  Option.eq_none_iff_forall_ne_some.mpr fun o ho => by
    obtain ⟨_, _, _, hne, -⟩ := h.offer o ho
    exact hne hm

theorem after_enterEngaged (h : Coherent s) (hd : drained s = true) : Coherent (enterEngaged s) := by
  rw [enterEngaged_eq]
  refine Coherent.after_offering (h.reaccounted (fun a => ?_) (fun a => ?_) (lists_eq_iff.mpr ⟨rfl, rfl, fun p => ?_⟩)
    (h.offer_none_of_drained hd))
  · obtain ⟨-, -, -, hp, -⟩ := refill_kept s.accounts[a]
    simpa [startedRun] using hp
  · have ha : (startedRun s).accounts[a] = engageRefill s.accounts[a] := by
      rw [startedRun, Fin.getElem_fin, Vector.getElem_map]
      rfl
    exact ha ▸ (h.accounts a).engageRefilled
  · simp [startedRun]

theorem after_settle (h : Coherent s) : Coherent (settle s) := by
  have ht := h.after_timeOutAll s.memory.issue.length
  rw [settle_eq]
  refine after_foldl (fun _ p hu => hu.after_takeHeld p) _ ?_
  split_ifs with hd
  · exact ht.after_enterEngaged (Bool.and_eq_true_iff.mp hd).2
  · exact ht

/-- The law is one of the blocks. -/
theorem law : BlockLaw Coherent where
  congr {s t} h e := by
    have he : ∀ {α : Type} (φ : State → α), φ (blocks t) = φ (blocks s) := fun φ => congrArg φ e
    exact h.of_offer (he State.mode) (he State.accounts) (he State.offer) (he lists)
  settle h := h.after_settle

/-- Between PASS and ENGAGING the offer stands on the same grounds (R84, R94). -/
theorem after_enterMode_idle (h : Coherent s) {m : Mode} (hs : s.mode = .pass ∨ s.mode = .engaging)
    (hm : m = .pass ∨ m = .engaging) : Coherent (enterMode s m) := by
  refine h.of_lists rfl rfl fun o ho => ?_
  obtain ⟨r, hr, hn, -, -, hg⟩ := h.offer o ho
  have hadm := admissible_idle (s := enterMode s m) hm r
  exact ⟨r, hr, hn, (hg hs).symm ▸ hadm⟩

theorem after_requestEngage (h : Coherent s) (b : BankIx) (signature : Half) :
    Coherent (requestEngage b signature s).after := by
  unfold requestEngage
  split_ifs with hm
  · exact h
  · exact h
  · exact h
  have hb : Coherent (setCalendar s { s.calendar with active := b }) := h.of_offer rfl rfl rfl rfl
  have he := hb.after_enterMode_idle (.inl (not_not.mp hm)) (.inr rfl)
  change Coherent (startEngaging b s)
  simp only [startEngaging]
  split_ifs with hd
  · exact he.after_enterEngaged hd
  · exact he

theorem after_requestDisengage (h : Coherent s) : Coherent (requestDisengage s).after := by
  unfold requestDisengage
  split
  · split_ifs
    · exact h
    · exact h.of_offer rfl rfl rfl rfl
  · next hm => exact (h.after_enterMode_idle (.inr hm) (.inl rfl)).after_makeOffer
  · exact h
  · exact h

theorem after_requestHalt (h : Coherent s) : Coherent (requestHalt s).after := by
  unfold requestHalt
  split_ifs
  · exact h
  · exact h.after_enterHalted

theorem after_requestRestart (h : Coherent s) : Coherent (requestRestart s).after := by
  unfold requestRestart
  split_ifs with hm
  · exact h
  · exact Coherent.after_makeOffer (h.unoffered rfl rfl (h.offer_none_of_halted (not_not.mp hm)))

/-! ### The tick -/

theorem after_expireSlot (h : Coherent s) : Coherent (expireSlot s) :=
  Coherent.after_makeOffer (h.unoffered rfl rfl rfl)

theorem after_boundaryCommon (h : Coherent s) : Coherent (boundaryCommon s) := by
  have ha : ∀ a : AccountIx, (boundaryCommon s).accounts[a] = countDown s.accounts[a] := mapEntries_get _ _
  have hq : ∀ p : Port, (boundaryCommon s).ports[p] = { s.ports[p] with strikes := 0 } := mapEntries_get _ _
  refine h.reaccounted (fun a => ?_) (fun a => ?_) (lists_eq_iff.mpr ⟨rfl, rfl, fun p => ?_⟩) rfl
  · rw [ha, countDown_parent]
  · exact ha a ▸ (h.accounts a).countedDown
  · rw [hq]

theorem takeDisengage_kept (s : State) : (takeDisengage s).accounts = s.accounts
    ∧ lists (takeDisengage s) = lists s ∧ (takeDisengage s).offer = s.offer := by
  unfold takeDisengage
  cases s.calendar.pendingSwitch <;> exact ⟨rfl, rfl, rfl⟩

theorem after_boundary (h : Coherent s) : Coherent (boundary s) := by
  have hb := h.after_boundaryCommon
  have ho : (boundaryCommon s).offer = none := rfl
  unfold boundary
  generalize boundaryCommon s = u at hb ho
  refine Coherent.after_makeOffer ?_
  split_ifs
  · obtain ⟨ha, hl, hto⟩ := takeDisengage_kept u
    exact hb.unoffered ha hl (hto.trans ho)
  · exact hb.unoffered rfl rfl ho
  · exact hb.unoffered rfl rfl ho

theorem after_tickCalendar (h : Coherent s) : Coherent (tickCalendar s) := by
  rcases tickCalendar_cases s with ⟨_, _, e⟩ | ⟨_, _, e⟩ | ⟨_, e⟩
  · exact e ▸ h.after_expireSlot
  · exact e ▸ h.after_boundary
  · rw [e]
    split_ifs
    · exact h.unoffered rfl rfl rfl
    · exact h.of_offer rfl rfl rfl rfl

theorem after_tickBoth (h : Coherent s) : Coherent (tickBoth s) := by
  have hc := h.reissued h.entries.counted
  simp only [tickBoth]
  split_ifs
  · exact hc.after_tickCalendar
  · exact hc

end Coherent

end Sys2Proof.Machine
end

section
/-! SUPPORT. The take, the completion and the commands of the service link keep the law of coherence, and so does every
step. -/

namespace Sys2Proof.Machine

/-- A new entry that serves an ISSUED record which no other entry serves (R81, R97). -/
theorem EntriesServe.appended {s : State} (h : EntriesServe s) {e : Entry} {r : Record}
    (hr : r ∈ s.ports[e.port].queue) (hn : e.record = some r.serial) (hs : r.state = .issued) (hw : e.state = .waiting)
    (hfree : ∀ x ∈ s.memory.issue, x.port = e.port → x.record ≠ some r.serial) :
    EntriesServe (setIssue s (s.memory.issue ++ [e])) := by
  have hmem : ∀ x ∈ s.memory.issue ++ [e], x ∈ s.memory.issue ∨ x = e := fun x hx =>
    (List.mem_append.mp hx).imp_right List.mem_singleton.mp
  refine ⟨fun x hx hxw => ?_, fun x hx ha => ?_, List.pairwise_append.mpr ⟨h.distinct, List.pairwise_singleton ..,
    fun x hx y hy _ hp => ?_⟩⟩
  · rcases hmem x hx with hx | rfl
    · exact h.waiting x hx hxw
    · exact ⟨r, hr, hn, hs⟩
  · rcases hmem x hx with hx | rfl
    · exact h.abandoned x hx ha
    · rw [hw] at ha
      cases ha
  · obtain rfl := List.mem_singleton.mp hy
    exact hn ▸ hfree x hx hp

/-- Grounds that are charged require a record in-budget (R27, R92). -/
theorem requiredStanding_charged {g : Grounds} (h : chargedGrounds g = true) :
    requiredStanding g = some .inBudget :=
  match g, h with
  | .owner, _ | .lent, _ | .opened, _ => rfl

/-- A charge of at most 16 beats leaves an account with a count of 1 or more within range (R27, R30, R42). -/
theorem Account.InRange.charged {x : Account} (h : x.InRange) {beats : Nat} (hb : beats ≤ 16) (hc : 1 ≤ x.count) :
    (chargedAccount beats x).InRange := by
  obtain ⟨-, hhigh⟩ := h.count
  refine { h with count := ⟨?_, ?_⟩ } <;> simp only [chargedAccount] <;> omega

theorem period?_some {b : Byte} {n : Nat} (h : period? b = some n) : 1 ≤ n ∧ n ≤ 255 := by
  unfold period? at h
  split_ifs at h with hb
  cases h
  exact ⟨Nat.pos_of_ne_zero fun h0 => hb (BitVec.eq_of_toNat_eq h0), Nat.le_of_lt_succ b.isLt⟩

theorem beats_le (t : Txn) : t.beats ≤ 16 := t.lastBeat.isLt

namespace Coherent

variable {s t : State}

/-! ### The take (R81) -/

/-- No entry serves a record that is not ISSUED (R96). -/
theorem unserved (h : Coherent s) {p : Port} {r : Record} (hr : r ∈ s.ports[p].queue) (hs : r.state ≠ .issued)
    (e : Entry) (he : e ∈ s.memory.issue) (hp : e.port = p) : e.record ≠ some r.serial := by
  subst hp
  intro hn
  cases hst : e.state with
  | abandoned =>
    rw [h.entries.abandoned e he hst] at hn
    cases hn
  | waiting =>
    obtain ⟨x, hx, hxn, hxs⟩ := h.entries.waiting e he hst
    have hserial : x.serial = r.serial := Option.some.inj (hxn.symm.trans hn)
    exact hs (h.records.serial_inj hx hr hserial ▸ hxs)

theorem mem_changeIn {p : Port} {r : Record} (hr : r ∈ s.ports[p].queue) (f : Record → Record) :
    f r ∈ (changeIn s p r.serial f).ports[p].queue := by
  rw [changeIn, Fin.getElem_fin, port_setQueue, if_pos rfl]
  exact List.mem_map.mpr ⟨r, hr, if_pos rfl⟩

/-- The offered record becomes ISSUED, and the new entry serves it. -/
theorem after_issued (h : Coherent s) {o : Offer} {r : Record} (hr : candidate s.ports[o.port] = some r)
    (hn : r.serial = o.serial) : Coherent (issued s o r) := by
  obtain ⟨hmem, hw⟩ := candidate_mem hr
  have hfree := h.unserved hmem fun hi => by
    rw [hw] at hi
    cases hi
  have hchanged : Coherent (changeIn (withdraw s) o.port r.serial (issueRecord s o)) :=
    h.withdrawn.after_changeIn (fun _ => rfl) (fun _ => nofun) hfree
      fun o ho => absurd ho.symm (Option.some_ne_none o)
  have hentry := hchanged.reissued (hchanged.entries.appended (e := entryOf s o r)
    (mem_changeIn (s := withdraw s) hmem (issueRecord s o)) rfl rfl rfl hfree)
  rw [hn] at hentry
  exact hentry.of_offer rfl rfl rfl rfl

/-- A charge of a chain in-budget (R27, R28, R30). -/
theorem after_charge (h : Coherent s) (ho : s.offer = none) {r : Record} {a : AccountIx} (ha : r.account = some a)
    (hb : InBudget s.accounts r) {beats : Nat} (hbeats : beats ≤ 16) : Coherent (charge s a beats) := by
  obtain ⟨_, hra, hcount⟩ := hb
  obtain rfl := Option.some.inj (ha.symm.trans hra)
  obtain ⟨accounts, accountStats, events, hcharge, haccount, -, -⟩ := charge_spec (h.acyclic.chain_nodup a) beats
  rw [hcharge]
  refine h.reaccounted (fun x => ?_) (fun x => ?_) rfl ho <;> dsimp only <;> rw [haccount] <;> split_ifs with hx
  · rfl
  · rfl
  · exact (h.accounts x).charged hbeats (hcount x ((mem_chain ..).mp hx))
  · exact h.accounts x

theorem after_takeOffer (h : Coherent s) : Coherent (takeOffer s) := by
  cases ho : s.offer with
  | none => exact (takeOffer_none ho).symm ▸ h
  | some o =>
    obtain ⟨r, hr, hn, hne, hclass, hidle⟩ := h.offer o ho
    have hfind := hn ▸ h.records.findRecord_eq (candidate_mem hr).1
    have hi := h.after_issued hr hn
    rw [takeOffer_found ho hfind]
    refine Coherent.after_offering ?_
    cases hg : chargedGrounds o.grounds with
    | false => exact (chargeTake_uncharged (issued s o r) r hg).symm ▸ hi
    | true =>
      have hreq := requiredStanding_charged hg
      have hm : s.mode = .engaged := by
        have hnot : ¬ (s.mode = .pass ∨ s.mode = .engaging) := fun hm => by
          rw [hidle hm] at hg
          cases hg
        cases hm : s.mode with
        | engaged => rfl
        | pass => exact absurd (.inl hm) hnot
        | engaging => exact absurd (.inr hm) hnot
        | halted => exact absurd hm hne
      have hstand := (standing_inBudget_iff ..).mp (Option.some.inj ((hclass hm).symm.trans hreq))
      obtain ⟨a, ha, -⟩ := id hstand
      rw [chargeTake_charged (issued s o r) ha hg]
      exact hi.after_charge rfl ha hstand (beats_le r.txn)

/-! ### The completion (R100 to R106) -/

theorem after_noteCompletion (h : Coherent s) (c : Completion) (p : Port) (r : Option Record) :
    Coherent (noteCompletion c p r s) := by
  unfold noteCompletion
  split
  · split_ifs
    · exact h.of_offer rfl rfl rfl rfl
    · exact h
  · exact h.reported _

theorem completeRecord_kept (c : Completion) (r : Record) :
    (completeRecord c r).serial = r.serial ∧ (completeRecord c r).state ≠ .waiting := by
  cases c <;> exact ⟨rfl, nofun⟩

theorem after_complete (h : Coherent s) (c : Completion) : Coherent (complete c s) := by
  unfold complete
  split
  · exact h.reported _
  · next e rest hl =>
    have hrest : EntriesServe (setIssue s rest) := h.entries.sublist (hl ▸ List.sublist_cons_self e rest)
    unfold completeEntry
    split
    · exact ((h.reissued hrest).reported _).after_makeOffer
    · next hw =>
      obtain ⟨hhead, -⟩ := List.pairwise_cons.mp (hl ▸ h.entries.distinct)
      have he : e ∈ s.memory.issue := hl ▸ List.mem_cons_self
      obtain ⟨r, -, hn, -⟩ := h.entries.waiting e he hw
      have hset := h.after_settleRecord he hw hrest
        (fun x hx hp => (hhead x hx (hn ▸ rfl) hp.symm).symm) (fun r => (completeRecord_kept c r).1)
        (fun r => (completeRecord_kept c r).2)
      exact ((hset.after_noteCompletion c e.port (recordOf s e)).after_answerFront e.port).after_makeOffer

/-! ### The commands of the ports and the memory side -/

theorem after_discard (h : Coherent s) : Coherent (discard s).after :=
  (h.reissued (h.entries.sublist List.filter_sublist)).after_makeOffer

/-- A flush withdraws an offer of the port first: no record of the port can then be offered (R54, R82). -/
theorem after_flushPort (h : Coherent s) (p : Port) : Coherent (flushPort p s) := by
  have hflush : ∀ u : State, Coherent u → (∀ o, u.offer = some o → o.port ≠ p) →
      Coherent (setQueue u p (u.ports[p].queue.map (settleWaiting .flushed))) := fun u hu ho =>
    hu.after_setQueue (requeues_map hu.records (fun r => by unfold settleWaiting; split_ifs <;> rfl)
      fun _ _ _ r _ hs _ => if_neg (by simp [isWaiting, hs])) fun o _ hoff hp => absurd hp (ho o hoff)
  unfold flushPort
  dsimp only
  split_ifs with hany
  · exact hflush (withdraw s) h.withdrawn nofun
  · refine hflush s h fun o ho hp => hany ?_
    simp [ho, hp]

theorem after_quiescePort (h : Coherent s) (p : Port) (flush : Bool) : Coherent (quiescePort p flush s).after := by
  have hp := h.after_setPortState p .quiescing
  have hq : Coherent (makeOffer (answerFront
      (if flush then flushPort p (setPortState s p .quiescing) else setPortState s p .quiescing) p)) := by
    refine (Coherent.after_answerFront ?_ p).after_makeOffer
    split_ifs
    · exact hp.after_flushPort p
    · exact hp
  unfold quiescePort
  split
  · exact h
  · exact h
  · exact hq
  · exact hq

theorem after_resumePort (h : Coherent s) (p : Port) : Coherent (resumePort p s).after := by
  have hr := h.after_setPort p (u := { s.ports[p] with state := .active, strikes := 0 }) rfl
  unfold resumePort
  split
  · exact h
  all_goals exact hr

/-! ### Every command and every step -/

/-- The rows of the bus. -/
theorem after_bus (h : Coherent s) {c : Instr} (hc : rowKind c = .bus) : ∃ t, exec c s = .next t ∧ Coherent t := by
  have hon : ∀ {act : State → State}, (∀ u, Coherent u → Coherent (act u)) → ∃ t : State,
      (Host.Outcome.next (onBus s act) : Host.Outcome State Fault Refusal) = .next t ∧ Coherent t :=
    fun ha => ⟨_, rfl, law.onBus h ha⟩
  cases c with
  | tick => exact hon fun _ hu => hu.after_tickBoth
  | slotExpiry =>
    refine hon fun u hu => ?_
    split_ifs
    · exact hu.after_tickBoth
    · exact hu
  | frameBoundary =>
    refine hon fun u hu => ?_
    split_ifs
    · exact hu.after_tickBoth
    · exact hu
  | arrival p x => exact hon fun _ hu => hu.after_present p x
  | arrivalWithdraw p => exact hon fun _ hu => hu.after_setArrival p none
  | take => exact hon fun _ hu => hu.after_takeOffer
  | completion r => exact hon fun _ hu => hu.after_complete r
  | _ => cases hc

/-- The rows of occurrences that another makes due. -/
theorem after_consequence (h : Coherent s) {c : Instr} (hc : rowKind c = .consequence) :
    ∃ t, exec c s = .next t ∧ Coherent t := by
  cases c with
  | heldArrivalTake p => exact ⟨_, rfl, law.whenDue h (fun _ hu _ => hu.after_takeHeld p) rfl⟩
  | entryTimeout => exact ⟨_, rfl, law.whenDue h (fun _ hu _ => hu.after_timeOut) rfl⟩
  | drainComplete =>
    exact ⟨_, rfl, law.whenDue h (fun _ hu hd => hu.after_enterEngaged (Bool.and_eq_true_iff.mp hd).2) rfl⟩
  | _ => cases hc

/-- The rows that end in the link. -/
theorem after_link (h : Coherent s) {c : Instr} (hc : rowKind c = .link) : ∃ t, exec c s = .next t ∧ Coherent t := by
  cases c with
  | shortTransfer bits => exact ⟨_, rfl, law.onLink h _ _⟩
  | badcrcPacket code tag => exact ⟨_, rfl, law.onLink h _ _⟩
  | unknownCommand tag what => exact ⟨_, rfl, law.onLink h _ _⟩
  | nop tag => exact ⟨_, rfl, law.onLink h _ _⟩
  | _ => cases hc

theorem checked {α : Type} {o : Option α} {judge : α → Reply} (h : Coherent s)
    (hj : ∀ x, o = some x → Coherent (judge x).after) : Coherent (checked o s judge).after :=
  checked_after Coherent h hj

/-- The rows of the commands that a block judges. -/
theorem after_service (h : Coherent s) {c : Instr} (hc : rowKind c = .service) :
    ∃ t, exec c s = .next t ∧ Coherent t := by
  have hserve : ∀ (code tag : Byte) {act : State → Reply}, (∀ u, Coherent u → Coherent (act u).after) →
      ∃ t : State, (Host.Outcome.next (serve code tag s act) : Host.Outcome State Fault Refusal) = .next t
        ∧ Coherent t := fun _ _ _ ha => ⟨_, rfl, law.serve h ha⟩
  have hwrite : ∀ (u : State) (b : BankIx) (n : Nat) (entries : Vector SlotEntry 32), Coherent u →
      Coherent (writeBank u b n entries).after := fun u b n entries hu => by
    unfold writeBank
    split
    · exact hu
    · exact hu.of_offer rfl rfl rfl rfl
  cases c with
  | readStatus tag => exact hserve _ _ fun _ hu => hu
  | writeBankHeader tag bank slots =>
    exact hserve _ _ fun u hu => hu.checked fun b _ => hu.checked fun n _ => hwrite u b n _ hu
  | writeSlot tag bank index entry =>
    exact hserve _ _ fun u hu => hu.checked fun b _ => hu.checked fun i _ => hu.checked fun e _ => hwrite u b _ _ hu
  | readBank tag bank => exact hserve _ _ fun _ hu => hu.checked fun _ _ => hu
  | readSlot tag bank index => exact hserve _ _ fun _ hu => hu.checked fun _ _ => hu.checked fun _ _ => hu
  | switch tag signature =>
    refine hserve _ _ fun u hu => ?_
    unfold requestSwitch
    split_ifs
    · exact hu
    · exact hu
    · exact hu
    · exact hu
    · exact hu.of_offer rfl rfl rfl rfl
  | cancelSwitch tag =>
    refine hserve _ _ fun u hu => ?_
    split_ifs
    · exact hu.of_offer rfl rfl rfl rfl
    · exact hu
  | writeWindow tag port window entry =>
    exact hserve _ _ fun _ hu => hu.checked fun _ _ => hu.checked fun _ _ => hu.checked fun _ _ =>
      hu.of_offer rfl rfl rfl rfl
  | readWindow tag port window => exact hserve _ _ fun _ hu => hu.checked fun _ _ => hu.checked fun _ _ => hu
  | writeAccount tag account preload period parent exhaust =>
    exact hserve _ _ fun _ hu => hu.checked fun _ _ => hu.checked fun _ hn => hu.checked fun _ _ =>
      hu.checked fun _ _ => hu.after_describeAccount (Nat.le_of_lt_succ preload.isLt) (period?_some hn)
  | readAccount tag account => exact hserve _ _ fun _ hu => hu.checked fun _ _ => hu
  | stageOverride tag account flag value =>
    refine hserve _ _ fun _ hu => hu.checked fun a _ => hu.checked fun stage _ => hu.after_overrideAccount a ?_
    intro n hn
    split_ifs at hn
    cases hn
    exact Nat.le_of_lt_succ value.isLt
  | clearOverride tag account => exact hserve _ _ fun _ hu => hu.checked fun a _ => hu.after_overrideAccount a nofun
  | refillNow tag account => exact hserve _ _ fun _ hu => hu.checked fun a _ => hu.after_refillAtOnce a
  | engage tag bank signature => exact hserve _ _ fun _ hu => hu.checked fun b _ => hu.after_requestEngage b signature
  | disengage tag => exact hserve _ _ fun _ hu => hu.after_requestDisengage
  | halt tag => exact hserve _ _ fun _ hu => hu.after_requestHalt
  | restart tag => exact hserve _ _ fun _ hu => hu.after_requestRestart
  | quiesce tag port flush =>
    exact hserve _ _ fun _ hu => hu.checked fun p _ => hu.checked fun f _ => hu.after_quiescePort p f
  | resume tag port => exact hserve _ _ fun _ hu => hu.checked fun p _ => hu.after_resumePort p
  | setTickDivider tag value =>
    refine hserve _ _ fun _ hu => hu.checked fun _ _ => ?_
    split_ifs
    · exact hu
    · exact hu.of_offer rfl rfl rfl rfl
  | setDepth tag value =>
    refine hserve _ _ fun _ hu => hu.checked fun _ _ => ?_
    unfold judgeDepth
    split_ifs
    · exact hu
    · exact hu
    · exact hu.of_offer rfl rfl rfl rfl
  | setTimeout tag value => exact hserve _ _ fun _ hu => hu.checked fun _ _ => hu.of_offer rfl rfl rfl rfl
  | setFaultAction tag value => exact hserve _ _ fun _ hu => hu.checked fun _ _ => hu.of_offer rfl rfl rfl rfl
  | setFenceLimit tag value => exact hserve _ _ fun _ hu => hu.checked fun _ _ => hu.of_offer rfl rfl rfl rfl
  | setAlertMask tag value => exact hserve _ _ fun _ hu => hu.checked fun _ _ => hu.of_offer rfl rfl rfl rfl
  | discardAbandoned tag => exact hserve _ _ fun _ hu => hu.after_discard
  | readEvent tag =>
    refine hserve _ _ fun u hu => ?_
    unfold readOldest
    split <;> exact hu
  | ackEvent tag sequence =>
    refine hserve _ _ fun u hu => ?_
    unfold acknowledge
    split
    · exact hu
    · split_ifs
      · exact hu.of_offer rfl rfl rfl rfl
      · exact hu
  | readStats tag object clear =>
    refine hserve _ _ fun u hu => hu.checked fun o _ => hu.checked fun f _ => ?_
    cases o <;> cases f <;> exact hu.of_offer rfl rfl rfl rfl
  | _ => cases hc

/-- Every command completes, and its next state keeps the law. -/
theorem after_exec (h : Coherent s) (c : Instr) : ∃ t, exec c s = .next t ∧ Coherent t := by
  cases hc : rowKind c with
  | bus => exact h.after_bus hc
  | service => exact h.after_service hc
  | link => exact h.after_link hc
  | consequence => exact h.after_consequence hc
  | edge =>
    by_cases hr : c = .resetAssert
    · subst hr
      exact ⟨_, rfl, coherent_reset.of_offer rfl rfl rfl rfl⟩
    · exact law.edge h hc hr

end Coherent

/-- Settles O58: each command keeps the law, and a step runs one command or none. -/
theorem accountsEntriesAndOfferStayCoherent : Obligations.AccountsEntriesAndOfferStayCoherent := by
  unfold Obligations.AccountsEntriesAndOfferStayCoherent
  exact fun s t h e => Coherent.law.step (fun c u hu => hu.after_exec c) h e

end Sys2Proof.Machine
end

section
/-! SUPPORT. What one command can make of the blocks, said once for every row; laws of the blocks follow from it. -/

namespace Sys2Proof.Machine

/-- What the command `c`, or an occurrence that is due before it, can make of the blocks. -/
inductive Deed (c : Instr) : State → State → Prop
  | nothing (s : State) : Deed c s s
  | timeout (s : State) : Deed c s (timeOut s)
  | drainEnd {s : State} : drainDue s = true → Deed c s (enterEngaged s)
  | takeHeld (s : State) (p : Port) : Deed c s (takeHeld s p)
  | tick (s : State) : Deed c s (tickBoth s)
  | arrival (s : State) {p : Port} {x : Txn} : c = .arrival p x → Deed c s (present p x s)
  | withdrawal (s : State) (p : Port) : Deed c s (setArrival s p none)
  | take (s : State) : Deed c s (takeOffer s)
  | completion (s : State) {r : Completion} : c = .completion r → Deed c s (complete r s)
  | discard (s : State) : Deed c s (makeOffer (setIssue s (s.memory.issue.filter waitsForCompletion)))
  | calendar {s : State} {k : Calendar} :
      (s.mode = .engaged → currentSlot k = currentSlot s.calendar ∧ k.ticks = s.calendar.ticks) →
      Deed c s (setCalendar s k)
  | account (s : State) (a : AccountIx) (x : Account) : Deed c s (rejudge (setAccount s a x))
  | override (s : State) (a : AccountIx) (v : Option Nat) :
      Deed c s (setAccount s a { s.accounts[a] with override := v })
  | window (s : State) (p : Port) (i : WindowIx) {w : Window} : w.base ≤ w.limit ∧ w.limit ≤ 4194303 →
      Deed c s (setWindow s p i w)
  | engage {s : State} (b : BankIx) : s.mode = .pass → Deed c s (startEngaging b s)
  | pass (s : State) (k : Calendar) : Deed c s (makeOffer (enterMode (setCalendar s k) .pass))
  | halt (s : State) : Deed c s (enterHalted s)
  | quiesce (s : State) (p : Port) (flush : Bool) : (∃ tag port flag, c = .quiesce tag port flag) →
      Deed c s (makeOffer (answerFront
        (if flush then flushPort p (setPortState s p .quiescing) else setPortState s p .quiescing) p))
  | resume (s : State) (p : Port) : Deed c s (setPort s p { s.ports[p] with state := .active, strikes := 0 })
  | depth {s : State} {n : Nat} : 1 ≤ n ∧ n ≤ 4 → s.memory.issue = [] → s.offer = none →
      Deed c s { s with memory := { s.memory with depth := n } }
  | settings (s : State) (timeout : Nat) (faultAction : FaultAction) :
      Deed c s { s with memory := { s.memory with timeout, faultAction } }
  | fenceLimit (s : State) {n : Nat} : n ≤ 15 → Deed c s { s with fenceLimit := n }
  | records (s : State) (events : EventUnit) (portStats : Vector PortStats 4)
      (accountStats : Vector AccountStats 8) (pendingDisengage : Bool) :
      Deed c s { s with events, portStats, accountStats, pendingDisengage }

/-- The two states have the same blocks, and have driven the same answers. -/
def Alike (s t : State) : Prop := blocks t = blocks s ∧ t.outputs.answers = s.outputs.answers

theorem Alike.refl (s : State) : Alike s s := ⟨rfl, rfl⟩

theorem alike_openTransfer (s : State) : Alike s (openTransfer s) := by
  refine ⟨blocks_openTransfer s, ?_⟩
  rw [openTransfer_eq]
  split_ifs <;> rfl

/-- The command `c` runs from `s` to `t`: what is due comes about first, or not, and then one deed is done. -/
def Runs (c : Instr) (s t : State) : Prop :=
  ∃ b u v, Alike (begin s) b ∧ (u = b ∨ u = settle b) ∧ Deed c u v ∧ Alike v t

section Frames

variable {c : Instr} {s : State}

theorem runs_idle {t : State} (h : Alike (begin s) t) : Runs c s t :=
  ⟨begin s, begin s, begin s, .refl _, .inl rfl, .nothing _, h⟩

theorem runs_onBus {act : State → State} (h : ∀ u, Deed c u (act u)) : Runs c s (onBus s act) := by
  unfold onBus
  split_ifs
  · exact runs_idle (.refl _)
  · exact ⟨begin s, settle (begin s), _, .refl _, .inr rfl, h _, .refl _⟩

theorem runs_whenDue {due : State → Bool} {act : State → State} (h : due (begin s) = true → Deed c (begin s) (act (begin s)))
    (hd : due (begin s) = due s) : Runs c s (whenDue s due act) := by
  unfold whenDue
  split_ifs with hc
  · obtain ⟨-, hdue⟩ := Bool.and_eq_true_iff.mp hc
    exact ⟨begin s, begin s, _, .refl _, .inl rfl, h (hd.trans hdue), .refl _⟩
  · exact runs_idle (.refl _)

theorem runs_onLink (n : Nat) (r : Response) : Runs c s (onLink s n r) := by
  unfold onLink
  split_ifs
  · obtain ⟨hb, ha⟩ := alike_openTransfer (begin s)
    exact runs_idle ⟨hb, ha⟩
  · exact runs_idle (.refl _)

theorem runs_serve {code tag : Byte} {act : State → Reply} (h : ∀ u, Deed c u (act u).after) :
    Runs c s (serve code tag s act) := by
  unfold serve
  split_ifs
  · exact ⟨openTransfer (begin s), _, _, alike_openTransfer _, .inr rfl, h _, rfl, rfl⟩
  · exact runs_idle (.refl _)

end Frames

/-! ### The deed of each row -/

theorem Deed.checked {c : Instr} {α : Type} {o : Option α} {s : State} {judge : α → Reply}
    (h : ∀ x, o = some x → Deed c s (judge x).after) : Deed c s (checked o s judge).after :=
  checked_after (Deed c s) (.nothing s) h

/-- A bank write replaces no bank that runs (R6). -/
theorem Deed.writeBank (c : Instr) (s : State) (b : BankIx) (n : Nat) (entries : Vector SlotEntry 32) :
    Deed c s (writeBank s b n entries).after := by
  unfold Machine.writeBank bankWriteRefusal
  split_ifs with hlive
  · exact .nothing s
  · exact .nothing s
  refine .calendar fun hm => ⟨?_, rfl⟩
  have hbank : activeBank (rewriteBank s.calendar b n entries) = activeBank s.calendar :=
    set_get_other _ _ fun hb => hlive ⟨hb, by rw [hm]; rfl⟩
  rw [currentSlot, hbank]
  rfl

theorem Deed.requestSwitch (c : Instr) (s : State) (signature : Half) :
    Deed c s (requestSwitch signature s).after := by
  unfold Machine.requestSwitch
  split_ifs
  case neg => exact .calendar fun _ => ⟨rfl, rfl⟩
  all_goals exact .nothing s

theorem Deed.requestEngage (c : Instr) (s : State) (b : BankIx) (signature : Half) :
    Deed c s (requestEngage b signature s).after := by
  unfold Machine.requestEngage
  split_ifs with hm
  case neg => exact .engage b (not_not.mp hm)
  all_goals exact .nothing s

theorem Deed.requestDisengage (c : Instr) (s : State) : Deed c s (requestDisengage s).after := by
  unfold Machine.requestDisengage
  split
  · split_ifs
    · exact .nothing s
    · exact .records s s.events s.portStats s.accountStats true
  · exact .pass s s.calendar
  · exact .nothing s
  · exact .nothing s

theorem Deed.quiescePort {c : Instr} (s : State) (p : Port) (flush : Bool)
    (hc : ∃ tag port flag, c = .quiesce tag port flag) : Deed c s (quiescePort p flush s).after := by
  unfold Machine.quiescePort
  split
  · exact .nothing s
  · exact .nothing s
  · exact .quiesce s p flush hc
  · exact .quiesce s p flush hc

theorem Deed.resumePort (c : Instr) (s : State) (p : Port) : Deed c s (resumePort p s).after := by
  unfold Machine.resumePort
  split
  · exact .nothing s
  all_goals exact .resume s p

theorem ranged?_some {low high n : Nat} {value : Quad} (h : ranged? low high value = some n) : low ≤ n ∧ n ≤ high := by
  unfold ranged? at h
  split_ifs at h with hr
  cases h
  exact hr

theorem Deed.judgeDepth (c : Instr) (s : State) {n : Nat} (hn : 1 ≤ n ∧ n ≤ 4) :
    Deed c s (judgeDepth n s).after := by
  unfold Machine.judgeDepth
  split_ifs with _ hb
  · exact .nothing s
  · exact .nothing s
  · obtain ⟨hi, ho⟩ : s.memory.issue = [] ∧ s.offer = none := by simpa using hb
    exact .depth hn hi ho

/-- A window entry in range (R73). -/
theorem window?_some {raw : RawWindow} {w : Window} (h : window? raw = some w) :
    w.base ≤ w.limit ∧ w.limit ≤ 4194303 := by
  simp only [window?, Option.bind_eq_bind, Option.bind_eq_some_iff] at h
  obtain ⟨valid, _, access, _, account, _, h⟩ := h
  split_ifs at h with hr
  cases h
  simp only [Config.lastBlock] at hr
  dsimp only
  omega

/-- The rows of the bus. -/
theorem runs_bus (s : State) {c : Instr} (hc : rowKind c = .bus) : ∃ t, exec c s = .next t ∧ Runs c s t := by
  cases c with
  | tick => exact ⟨_, rfl, runs_onBus fun u => .tick u⟩
  | slotExpiry =>
    refine ⟨_, rfl, runs_onBus fun u => ?_⟩
    split_ifs
    · exact .tick u
    · exact .nothing u
  | frameBoundary =>
    refine ⟨_, rfl, runs_onBus fun u => ?_⟩
    split_ifs
    · exact .tick u
    · exact .nothing u
  | arrival p x => exact ⟨_, rfl, runs_onBus fun u => .arrival u rfl⟩
  | arrivalWithdraw p => exact ⟨_, rfl, runs_onBus fun u => .withdrawal u p⟩
  | take => exact ⟨_, rfl, runs_onBus fun u => .take u⟩
  | completion r => exact ⟨_, rfl, runs_onBus fun u => .completion u rfl⟩
  | _ => cases hc

/-- The rows of the commands that a block judges. -/
theorem runs_service (s : State) {c : Instr} (hc : rowKind c = .service) : ∃ t, exec c s = .next t ∧ Runs c s t := by
  cases c with
  | readStatus tag => exact ⟨_, rfl, runs_serve fun u => .nothing u⟩
  | writeBankHeader tag bank slots =>
    exact ⟨_, rfl, runs_serve fun u => .checked fun b _ => .checked fun n _ => .writeBank _ u b n _⟩
  | writeSlot tag bank index entry =>
    exact ⟨_, rfl, runs_serve fun u => .checked fun b _ => .checked fun i _ => .checked fun e _ =>
      .writeBank _ u b _ _⟩
  | readBank tag bank => exact ⟨_, rfl, runs_serve fun u => .checked fun _ _ => .nothing u⟩
  | readSlot tag bank index =>
    exact ⟨_, rfl, runs_serve fun u => .checked fun _ _ => .checked fun _ _ => .nothing u⟩
  | switch tag signature => exact ⟨_, rfl, runs_serve fun u => .requestSwitch _ u signature⟩
  | cancelSwitch tag =>
    refine ⟨_, rfl, runs_serve fun u => ?_⟩
    split_ifs
    · exact .calendar fun _ => ⟨rfl, rfl⟩
    · exact .nothing u
  | writeWindow tag port window entry =>
    exact ⟨_, rfl, runs_serve fun u => .checked fun p _ => .checked fun i _ => .checked fun w hw =>
      .window u p i (window?_some hw)⟩
  | readWindow tag port window =>
    exact ⟨_, rfl, runs_serve fun u => .checked fun _ _ => .checked fun _ _ => .nothing u⟩
  | writeAccount tag account preload period parent exhaust =>
    refine ⟨_, rfl, runs_serve fun u => .checked fun a _ => .checked fun n _ => .checked fun p _ =>
      .checked fun x _ => ?_⟩
    unfold describeAccount
    split_ifs
    · exact .nothing u
    · exact .account u a _
  | readAccount tag account => exact ⟨_, rfl, runs_serve fun u => .checked fun _ _ => .nothing u⟩
  | stageOverride tag account flag value =>
    exact ⟨_, rfl, runs_serve fun u => .checked fun a _ => .checked fun _ _ => .override u a _⟩
  | clearOverride tag account => exact ⟨_, rfl, runs_serve fun u => .checked fun a _ => .override u a none⟩
  | refillNow tag account =>
    refine ⟨_, rfl, runs_serve fun u => .checked fun a _ => ?_⟩
    unfold refillAtOnce
    split_ifs
    · exact .nothing u
    · exact .account u a _
  | engage tag bank signature =>
    exact ⟨_, rfl, runs_serve fun u => .checked fun b _ => .requestEngage _ u b signature⟩
  | disengage tag => exact ⟨_, rfl, runs_serve fun u => .requestDisengage _ u⟩
  | halt tag =>
    refine ⟨_, rfl, runs_serve fun u => ?_⟩
    unfold requestHalt
    split_ifs
    · exact .nothing u
    · exact .halt u
  | restart tag =>
    refine ⟨_, rfl, runs_serve fun u => ?_⟩
    unfold requestRestart
    split_ifs
    · exact .nothing u
    · exact .pass u _
  | quiesce tag port flush =>
    exact ⟨_, rfl, runs_serve fun u => .checked fun p _ => .checked fun f _ =>
      .quiescePort u p f ⟨tag, port, flush, rfl⟩⟩
  | resume tag port => exact ⟨_, rfl, runs_serve fun u => .checked fun p _ => .resumePort _ u p⟩
  | setTickDivider tag value =>
    refine ⟨_, rfl, runs_serve fun u => .checked fun n _ => ?_⟩
    split_ifs
    · exact .nothing u
    · exact .calendar fun _ => ⟨rfl, rfl⟩
  | setDepth tag value =>
    exact ⟨_, rfl, runs_serve fun u => .checked fun n hn => .judgeDepth _ u (ranged?_some hn)⟩
  | setTimeout tag value =>
    exact ⟨_, rfl, runs_serve fun u => .checked fun n _ => .settings u n u.memory.faultAction⟩
  | setFaultAction tag value =>
    exact ⟨_, rfl, runs_serve fun u => .checked fun a _ => .settings u u.memory.timeout a⟩
  | setFenceLimit tag value =>
    exact ⟨_, rfl, runs_serve fun u => .checked fun n hn => .fenceLimit u (ranged?_some hn).2⟩
  | setAlertMask tag value =>
    exact ⟨_, rfl, runs_serve fun u => .checked fun m _ =>
      .records u _ u.portStats u.accountStats u.pendingDisengage⟩
  | discardAbandoned tag => exact ⟨_, rfl, runs_serve fun u => .discard u⟩
  | readEvent tag =>
    refine ⟨_, rfl, runs_serve fun u => ?_⟩
    unfold readOldest
    split <;> exact .nothing u
  | ackEvent tag sequence =>
    refine ⟨_, rfl, runs_serve fun u => ?_⟩
    unfold acknowledge
    split
    · exact .nothing u
    · split_ifs
      · exact .records u _ u.portStats u.accountStats u.pendingDisengage
      · exact .nothing u
  | readStats tag object clear =>
    refine ⟨_, rfl, runs_serve fun u => .checked fun o _ => .checked fun f _ => ?_⟩
    cases o <;> cases f <;> exact .records u u.events _ _ u.pendingDisengage
  | _ => cases hc

/-- The rows of occurrences that another makes due. -/
theorem runs_consequence (s : State) {c : Instr} (hc : rowKind c = .consequence) :
    ∃ t, exec c s = .next t ∧ Runs c s t := by
  cases c with
  | heldArrivalTake p => exact ⟨_, rfl, runs_whenDue (fun _ => .takeHeld _ p) rfl⟩
  | entryTimeout => exact ⟨_, rfl, runs_whenDue (fun _ => .timeout _) rfl⟩
  | drainComplete => exact ⟨_, rfl, runs_whenDue .drainEnd rfl⟩
  | _ => cases hc

/-- Every command but RESET_ASSERT completes, with what is due before it and one deed. -/
theorem exec_runs (s : State) {c : Instr} (hr : c ≠ .resetAssert) : ∃ t, exec c s = .next t ∧ Runs c s t := by
  cases hc : rowKind c with
  | bus => exact runs_bus s hc
  | service => exact runs_service s hc
  | consequence => exact runs_consequence s hc
  | link =>
    cases c with
    | shortTransfer bits => exact ⟨_, rfl, runs_onLink _ _⟩
    | badcrcPacket code tag => exact ⟨_, rfl, runs_onLink _ _⟩
    | unknownCommand tag what => exact ⟨_, rfl, runs_onLink _ _⟩
    | nop tag => exact ⟨_, rfl, runs_onLink _ _⟩
    | _ => cases hc
  | edge =>
    cases c with
    | resetAssert => exact absurd rfl hr
    | resetRelease =>
      refine ⟨_, rfl, runs_idle ?_⟩
      split_ifs <;> exact ⟨rfl, rfl⟩
    | transferStart =>
      refine ⟨_, rfl, runs_idle ?_⟩
      split_ifs
      · exact .refl _
      · exact ⟨rfl, rfl⟩
      · exact alike_openTransfer _
    | lselRiseWithoutTransfer =>
      refine ⟨_, rfl, runs_idle ?_⟩
      split_ifs <;> exact ⟨rfl, rfl⟩
    | _ => cases hc

/-! ### Laws that every deed keeps -/

/-- `P` says something of the blocks alone, it holds after reset, and every deed keeps it. -/
structure DeedLaw (P : State → Prop) : Prop where
  congr : ∀ {s t : State}, P s → blocks t = blocks s → P t
  reset : P State.reset
  deed : ∀ {c : Instr} {s t : State}, P s → Deed c s t → P t

namespace DeedLaw

variable {P : State → Prop} (hP : DeedLaw P) {s t : State}

include hP

/-- What is due comes about by deeds. -/
theorem settle (h : P s) : P (settle s) := by
  have hfold : ∀ (l : List Port) (u : State), P u → P (l.foldl Machine.takeHeld u) := fun l => by
    induction l with
    | nil => exact fun _ hu => hu
    | cons p l ih => exact fun u hu => ih _ (hP.deed hu (.takeHeld (c := .tick) u p))
  have htime : ∀ (n : Nat) (u : State), P u → P (timeOutAll n u) := fun n => by
    induction n with
    | zero => exact fun _ hu => hu
    | succ n ih => exact fun u hu => ih _ (hP.deed hu (.timeout (c := .tick) u))
  have ht := htime s.memory.issue.length s h
  rw [settle_eq]
  refine hfold allPorts _ ?_
  split_ifs with hd
  · exact hP.deed ht (.drainEnd (c := .tick) hd)
  · exact ht

theorem runs {c : Instr} (h : P s) (hr : Runs c s t) : P t := by
  obtain ⟨b, u, v, ⟨hb, -⟩, hu, hd, ht, -⟩ := hr
  have hpb : P b := hP.congr h hb
  have hpu : P u := hu.elim (fun e => e ▸ hpb) fun e => e ▸ hP.settle hpb
  exact hP.congr (hP.deed hpu hd) ht

/-- Every step keeps the law, for a step runs one command or none. -/
theorem step (h : P s) (e : Machine.step s = .next t) : P t := by
  have hlaw : BlockLaw P := ⟨hP.congr, hP.settle⟩
  refine hlaw.step (fun c u hu => ?_) h e
  by_cases hr : c = .resetAssert
  · subst hr
    exact ⟨_, rfl, hP.congr hP.reset rfl⟩
  · obtain ⟨v, hv, hrun⟩ := exec_runs u hr
    exact ⟨v, hv, hP.runs hu hrun⟩

end DeedLaw

end Sys2Proof.Machine
end

section
/-! SUPPORT. What the larger operations of the blocks come to, in one formula each, for the laws of the ports. -/

namespace Sys2Proof.Machine

/-! ### Acceptance (R45, R46) -/

/-- A strike raises the count, up to 15, and fences an ACTIVE port at a limit that is not 0 (R59, R61). -/
theorem strike_eq (s : State) (p : Port) :
    strike s p =
      let k := min (s.ports[p].strikes + 1) 15
      let fenced := s.fenceLimit ≠ 0 ∧ s.fenceLimit ≤ k ∧ s.ports[p].state = .active
      { s with
        ports := s.ports.set p { s.ports[p] with
          strikes := k, state := if fenced then .fenced else s.ports[p].state }
        events := if fenced then
            storeIn s.events (positionOf s.calendar)
              { kind := .portFenced, port := some p, detail := some (byteOf k) }
          else s.events } := by
  simp only [strike, fenceTest, Config.strikeCeiling, setPort_ports, setPort_fenceLimit, Fin.getElem_fin,
    Vector.getElem_set_self, bne_iff_ne, beq_iff_eq, Bool.and_eq_true, decide_eq_true_eq, and_assoc]
  split_ifs
  · simp only [report, setEvents, setPortState, setPort, Fin.getElem_fin, Vector.getElem_set_self, Vector.set_set]
  · rfl

/-- A refusal with a strike: the record, the count, the event, the strike, the fence (R46, R59, R61). -/
theorem refuseWithStrike_eq (s : State) (p : Port) (t : Txn) (st : Status) (w : Option WindowIx) (r : Report) :
    refuseWithStrike s p t st w r =
      let k := min (s.ports[p].strikes + 1) 15
      let fenced := s.fenceLimit ≠ 0 ∧ s.fenceLimit ≤ k ∧ s.ports[p].state = .active
      let refused := storeIn s.events (positionOf s.calendar) r
      { s with
        ports := s.ports.set p { s.ports[p] with
          queue := s.ports[p].queue ++ [newRecord s t (.refused st) none w]
          strikes := k
          state := if fenced then .fenced else s.ports[p].state }
        portStats := s.portStats.set p { s.portStats[p] with refusals := s.portStats[p].refusals + 1 }
        events := if fenced then
            storeIn refused (positionOf s.calendar)
              { kind := .portFenced, port := some p, detail := some (byteOf k) }
          else refused
        serial := s.serial + 1 } := by
  rw [refuseWithStrike, strike_eq]
  simp only [report, setEvents, appendRefused, countPort, appendRecord, setQueue, setPort, Fin.getElem_fin,
    Vector.getElem_set_self, Vector.set_set]
  rfl

/-- A port that does not hold its arrival off has room for it (R45 step 1). -/
theorem queue_room_of_taken {m : Mode} {u : PortUnit} (h : holdsOff m u = false) : u.queue.length < 8 := by
  simp only [holdsOff, Bool.or_eq_false_iff, decide_eq_false_iff_not] at h
  obtain ⟨⟨-, hlen⟩, -⟩ := h
  exact Nat.not_le.mp hlen

/-- The states that a record can have when the port takes it (R46, R47). -/
def TakenState (st : RecordState) : Prop :=
  st = .waiting ∨ ∃ x ∈ [Status.malformed, .window, .access, .fenced, .halted], st = .refused x

/-- `u` is `v` once it has taken the record `r`: it keeps its arrival, and a strike leaves its count at 15 at most. -/
structure Took (v : PortUnit) (r : Record) (u : PortUnit) : Prop where
  queue : u.queue = v.queue ++ [r]
  arrival : u.arrival = v.arrival
  strikes : u.strikes ≤ max v.strikes 15

/-- Whatever the acceptance rule decides, the port appends one record, and only it, its statistics, the event unit and
the count of records change. -/
theorem acceptSteps_frame (s : State) (p : Port) (t : Txn) :
    ∃ st account window u portStats events, TakenState st
      ∧ Took s.ports[p] (newRecord s t st account window) u
      ∧ acceptSteps s p t = { s with ports := s.ports.set p u, portStats, events, serial := s.serial + 1 } := by
  have hwait : ∀ (a : Option AccountIx) (w : Option WindowIx),
      ∃ st account window u portStats events, TakenState st
        ∧ Took s.ports[p] (newRecord s t st account window) u
        ∧ appendRecord s p t .waiting a w
          = { s with ports := s.ports.set p u, portStats, events, serial := s.serial + 1 } := fun a w => by
    refine ⟨.waiting, a, w, _, s.portStats, s.events, .inl rfl, ?_, rfl⟩
    exact ⟨rfl, rfl, Nat.le_max_left ..⟩
  have hrefuse : ∀ x ∈ [Status.malformed, .window, .access, .fenced, .halted],
      ∃ st account window u portStats events, TakenState st
        ∧ Took s.ports[p] (newRecord s t st account window) u
        ∧ appendRefused s p t x none
          = { s with ports := s.ports.set p u, portStats, events, serial := s.serial + 1 } := fun x hx => by
    refine ⟨.refused x, none, none, _, _, s.events, .inr ⟨x, hx, rfl⟩, ?_, rfl⟩
    exact ⟨rfl, rfl, Nat.le_max_left ..⟩
  have hstrike : ∀ x ∈ [Status.malformed, .window, .access, .fenced, .halted], ∀ w r,
      ∃ st account window u portStats events, TakenState st
        ∧ Took s.ports[p] (newRecord s t st account window) u
        ∧ refuseWithStrike s p t x w r
          = { s with ports := s.ports.set p u, portStats, events, serial := s.serial + 1 } := fun x hx w r => by
    refine ⟨.refused x, none, w, _, _, _, .inr ⟨x, hx, rfl⟩, ?_, refuseWithStrike_eq ..⟩
    exact ⟨rfl, rfl, (Nat.min_le_right ..).trans (Nat.le_max_right ..)⟩
  unfold acceptSteps
  split_ifs
  · exact hrefuse .halted (by decide)
  · exact hrefuse .fenced (by decide)
  · exact hstrike .malformed (by decide) ..
  · exact hrefuse .malformed (by decide)
  · unfold decideByWindows
    split
    · exact hstrike .window (by decide) ..
    · exact hstrike .access (by decide) ..
    · exact hwait ..
  · exact hwait ..

/-! ### The take (R81) -/

theorem chargeTake_frame (s : State) (o : Offer) (r : Record) : ∃ accounts accountStats events,
    chargeTake s o r = { s with accounts, accountStats, events } := by
  unfold chargeTake
  split
  · exact ⟨s.accounts, s.accountStats, s.events, rfl⟩
  · split_ifs
    · exact ⟨_, _, _, foldl_chargeOne_frame ..⟩
    · exact ⟨s.accounts, s.accountStats, s.events, rfl⟩

/-- A take finds no offered record, or issues the one that it finds. -/
theorem takeOffer_cases (s : State) :
    takeOffer s = s ∨ ∃ o r accounts accountStats events, s.offer = some o
      ∧ takeOffer s = offering { issued s o r with accounts, accountStats, events } := by
  cases ho : s.offer with
  | none => exact .inl (takeOffer_none ho)
  | some o =>
    cases hr : findRecord s o.port o.serial with
    | none => exact .inl (by simp only [takeOffer, ho, hr])
    | some r =>
      obtain ⟨accounts, accountStats, events, e⟩ := chargeTake_frame (issued s o r) o r
      exact .inr ⟨o, r, accounts, accountStats, events, rfl, (takeOffer_found ho hr).trans (congrArg offering e)⟩

/-! ### Timeouts (R104, R107) -/

/-- The record of a timed-out entry. -/
def timedOut (r : Record) : Record := { r with state := .done .timeout }

/-- A timeout before the fault action: the entry is abandoned, its record settled, and the event stored. -/
def afterTimeout (s : State) (e : Entry) : State :=
  report (settleRecord (setIssue s (abandonFirst s.memory.issue)) e timedOut)
    (downstreamReport .downstreamTimeout e.port (recordOf s e))

theorem timeOut_cases (s : State) :
    timeOut s = s ∨ ∃ e, s.memory.issue.find? timeoutDue = some e
      ∧ (timeOut s = enterHalted (afterTimeout s e) ∨ timeOut s = makeOffer (answerFront (afterTimeout s e) e.port)) := by
  unfold timeOut
  split
  · exact .inl rfl
  · next e he =>
    refine .inr ⟨e, he, ?_⟩
    split_ifs
    · exact .inl rfl
    · exact .inr rfl

/-! ### The tick (R12 to R15) -/

/-- What a frame boundary brings about: the offer goes, the strikes clear, and the selector chooses in what the calendar
and the modes have come to. -/
theorem boundary_frame (s : State) : ∃ mode pendingDisengage calendar accounts events,
    boundary s = offering { s with
      mode, pendingDisengage, calendar, accounts, events
      offer := none
      ports := s.ports.map fun u => { u with strikes := 0 } } := by
  simp only [boundary, makeOffer_eq, ← mapEntries_eq_map]
  split_ifs
  · cases hp : (boundaryCommon s).calendar.pendingSwitch <;>
      simp only [takeDisengage, hp] <;> exact ⟨_, _, _, _, _, rfl⟩
  · exact ⟨_, _, _, _, _, rfl⟩
  · exact ⟨_, _, _, _, _, rfl⟩

/-- A tick counts in every entry. In ENGAGED it then takes one from the ticks remaining, or it ends the slot, and the
selector chooses in what the calendar and the modes have come to. -/
theorem tickBoth_frame (s : State) :
    let u := setIssue s (s.memory.issue.map countTick)
    tickBoth s = u
      ∨ (s.mode = .engaged ∧ tickBoth s = { u with
          calendar := { s.calendar with ticks := s.calendar.ticks - 1 }
          offer := if s.calendar.ticks - 1 ≤ (currentSlot s.calendar).cutoff then none else s.offer })
      ∨ ∃ mode pendingDisengage calendar accounts events ports,
          (∀ p : Port, ports[p] = s.ports[p] ∨ ports[p] = { s.ports[p] with strikes := 0 })
          ∧ tickBoth s = offering { u with
              mode, pendingDisengage, calendar, accounts, events, ports, offer := none } := by
  intro u
  by_cases hm : s.mode = .engaged
  · have ht : tickBoth s = tickCalendar u := if_pos hm
    rw [ht]
    rcases tickCalendar_cases u with ⟨_, _, e⟩ | ⟨_, _, e⟩ | ⟨_, e⟩
    · refine .inr (.inr ⟨s.mode, s.pendingDisengage, startSlot s.calendar (nextSlot s.calendar.slot), s.accounts,
        s.events, s.ports, fun _ => .inl rfl, e.trans ?_⟩)
      rw [expireSlot, makeOffer_eq]
      rfl
    · obtain ⟨mode, pd, calendar, accounts, events, hb⟩ := boundary_frame u
      exact .inr (.inr ⟨mode, pd, calendar, accounts, events, _, fun p => .inr (by simp [u]), e.trans hb⟩)
    · exact .inr (.inl ⟨hm, e⟩)
  · exact .inl (if_neg hm)

/-! ### QUIESCE (R54) -/

theorem settleWaiting_eq (st : Status) (r : Record) :
    settleWaiting st r = if r.state = .waiting then { r with state := .done st } else r := by
  simp [settleWaiting, isWaiting]

/-- A flush settles the WAITING records of the port and withdraws an offer of it (R54, R82). -/
theorem flushPort_eq (s : State) (p : Port) :
    flushPort p s = { s with
      ports := s.ports.set p { s.ports[p] with queue := s.ports[p].queue.map (settleWaiting .flushed) }
      offer := s.offer.filter (·.port != p) } := by
  have hs : ∀ u : State, ∀ o, u.offer = o → u = { u with offer := o } := fun u o ho => ho ▸ rfl
  by_cases hany : s.offer.any (·.port == p) = true
  · have hf : s.offer.filter (·.port != p) = none := by
      cases ho : s.offer <;> simp_all
    rw [hf]
    exact if_pos hany
  · have hf : s.offer = s.offer.filter (·.port != p) := by
      cases ho : s.offer with
      | none => rfl
      | some o => simp_all [Option.filter_some]
    exact (if_neg hany).trans (hs (setQueue s p _) _ hf)

end Sys2Proof.Machine
end

section
/-! SUPPORT. The capacities: most operations let no queue and no list grow, and each of the others has room for what it
adds. -/

namespace Sys2Proof.Machine

/-- No queue, strike count or list has grown from `s` to `t`, no offer has been made, and the windows and limits are as
they were. -/
structure Shrinks (s t : State) : Prop where
  queues : ∀ p : Port, t.ports[p].queue.length ≤ s.ports[p].queue.length
  strikes : ∀ p : Port, t.ports[p].strikes ≤ s.ports[p].strikes
  fence : t.fenceLimit = s.fenceLimit
  depth : t.memory.depth = s.memory.depth
  issue : t.memory.issue.length ≤ s.memory.issue.length
  offer : t.offer.isSome = true → s.offer.isSome = true
  windows : t.windows = s.windows

namespace Shrinks

theorem trans {s t u : State} (h : Shrinks s t) (h' : Shrinks t u) : Shrinks s u where
  queues p := (h'.queues p).trans (h.queues p)
  strikes p := (h'.strikes p).trans (h.strikes p)
  fence := h'.fence.trans h.fence
  depth := h'.depth.trans h.depth
  issue := h'.issue.trans h.issue
  offer ho := h.offer (h'.offer ho)
  windows := h'.windows.trans h.windows

/-- Ports as they were, and no list longer. -/
theorem of_ports {s t : State} (hp : t.ports = s.ports) (hf : t.fenceLimit = s.fenceLimit)
    (hm : t.memory.depth = s.memory.depth) (hi : t.memory.issue.length ≤ s.memory.issue.length)
    (ho : t.offer = s.offer ∨ t.offer = none) (hw : t.windows = s.windows) : Shrinks s t :=
  ⟨fun p => hp ▸ Nat.le_refl _, fun p => hp ▸ Nat.le_refl _, hf, hm, hi,
    fun h => ho.elim (fun e => e ▸ h) fun e => by simp [e] at h, hw⟩

theorem refl (s : State) : Shrinks s s := .of_ports rfl rfl rfl (Nat.le_refl _) (.inl rfl) rfl

theorem report (s : State) (r : Report) : Shrinks s (report s r) :=
  .of_ports rfl rfl rfl (Nat.le_refl _) (.inl rfl) rfl

theorem setPort (s : State) (p : Port) {u : PortUnit} (hq : u.queue.length ≤ s.ports[p].queue.length)
    (hk : u.strikes ≤ s.ports[p].strikes) : Shrinks s (setPort s p u) := by
  refine ⟨fun q => ?_, fun q => ?_, rfl, rfl, Nat.le_refl _, id, rfl⟩ <;>
    rw [setPort_ports, Fin.getElem_fin, set_get] <;> split_ifs with h
  · exact h ▸ hq
  · exact Nat.le_refl _
  · exact h ▸ hk
  · exact Nat.le_refl _

theorem setQueue (s : State) (p : Port) {q : List Record} (hq : q.length ≤ s.ports[p].queue.length) :
    Shrinks s (setQueue s p q) :=
  .setPort s p (u := { s.ports[p] with queue := q }) hq (Nat.le_refl _)

theorem answerFront (s : State) (p : Port) : Shrinks s (answerFront s p) := by
  have e : Machine.answerFront s p = answered s p s.ports[p].queue := answerFront_eq s p
  have hq : ∀ u : PortUnit, (answeredPort u).queue.length ≤ u.queue.length ∧ (answeredPort u).strikes ≤ u.strikes :=
    fun u => ⟨(List.dropWhile_sublist _).length_le, Nat.le_refl _⟩
  refine ⟨fun q => ?_, fun q => ?_, e ▸ rfl, e ▸ rfl, e ▸ Nat.le_refl _, e ▸ id, e ▸ rfl⟩ <;>
    rw [answerFront_port] <;> split_ifs with h
  · exact h ▸ (hq s.ports[p]).1
  · exact Nat.le_refl _
  · exact h ▸ (hq s.ports[p]).2
  · exact Nat.le_refl _

theorem settleRecord (s : State) (e : Entry) (f : Record → Record) : Shrinks s (settleRecord s e f) := by
  unfold Machine.settleRecord
  split
  · exact .refl s
  · exact .setQueue s e.port (Nat.le_of_eq (List.length_map _))

theorem setIssue (s : State) {l : List Entry} (h : l.length ≤ s.memory.issue.length) : Shrinks s (setIssue s l) :=
  .of_ports rfl rfl rfl h (.inl rfl) rfl

theorem enterHalted (s : State) : Shrinks s (enterHalted s) := by
  have hp := (haltedFrom_enterHalted s).ports
  obtain ⟨-, -, hw, -, hf, -, hm, -, ho⟩ := enterHalted_kept s
  refine ⟨fun p => ?_, fun p => ?_, hf, by rw [hm], by rw [hm], fun h => by simp [ho] at h, hw⟩ <;> rw [hp]
  · calc ((s.ports[p].queue.map haltedRecord).dropWhile answerable).length
        ≤ (s.ports[p].queue.map haltedRecord).length := (List.dropWhile_sublist _).length_le
      _ = s.ports[p].queue.length := List.length_map _

theorem afterTimeout (s : State) (e : Entry) : Shrinks s (afterTimeout s e) :=
  ((setIssue s (Nat.le_of_eq (abandonFirst_length _))).trans (settleRecord _ e timedOut)).trans (report _ _)

theorem noteCompletion (c : Completion) (p : Port) (r : Option Record) (s : State) :
    Shrinks s (noteCompletion c p r s) := by
  unfold Machine.noteCompletion
  split
  · split_ifs
    · exact .of_ports rfl rfl rfl (Nat.le_refl _) (.inl rfl) rfl
    · exact .refl s
  · exact .report s _

theorem flushPort (s : State) (p : Port) : Shrinks s (flushPort p s) := by
  rw [flushPort_eq]
  refine (setQueue s p (q := s.ports[p].queue.map (settleWaiting .flushed)) (Nat.le_of_eq (List.length_map _))).trans
    ⟨fun _ => Nat.le_refl _, fun _ => Nat.le_refl _, rfl, rfl, Nat.le_refl _, fun h => ?_, rfl⟩
  cases ho : s.offer with
  | none => simp [ho] at h
  | some o => simp [ho]

/-- The run starts with no strikes (R119). -/
theorem startedRun (s : State) : Shrinks s (startedRun s) := by
  refine ⟨fun p => ?_, fun p => ?_, rfl, rfl, Nat.le_refl _, id, rfl⟩ <;> simp [Machine.startedRun]

end Shrinks

/-- The capacities and the windows. -/
def Bounded (s : State) : Prop := WithinCapacity s ∧ WindowsSound s

namespace Bounded

variable {s t : State}

theorem shrunk (h : Bounded s) (hs : Shrinks s t) : Bounded t := by
  obtain ⟨⟨hq, hk, hf, hd, hi, hr⟩, hw⟩ := h
  refine ⟨⟨fun p => (hs.queues p).trans (hq p), fun p => (hs.strikes p).trans (hk p), hs.fence ▸ hf, hs.depth ▸ hd,
    hs.depth ▸ hs.issue.trans hi, fun ho => hs.depth ▸ Nat.lt_of_le_of_lt hs.issue (hr (hs.offer ho))⟩, ?_⟩
  rw [WindowsSound, hs.windows]
  exact hw

/-- The same, where nothing that the capacities read has changed but the offer, which may have gone. -/
theorem of_ports (h : Bounded s) (hp : t.ports = s.ports) (hf : t.fenceLimit = s.fenceLimit)
    (hm : t.memory.depth = s.memory.depth) (hi : t.memory.issue.length ≤ s.memory.issue.length)
    (ho : t.offer = s.offer ∨ t.offer = none) (hw : t.windows = s.windows) : Bounded t :=
  h.shrunk (.of_ports hp hf hm hi ho hw)

/-- An offer is made only while the list has room (R78, R79). -/
theorem after_offering (h : Bounded s) : Bounded (offering s) := by
  obtain ⟨⟨hq, hk, hf, hd, hi, hr⟩, hw⟩ := h
  refine ⟨⟨hq, hk, hf, hd, hi, fun ho => ?_⟩, hw⟩
  change (if s.offer = none ∧ s.memory.issue.length < s.memory.depth then choose s else s.offer).isSome = true at ho
  split_ifs at ho with hroom
  · exact hroom.2
  · exact hr ho

theorem after_makeOffer (h : Bounded s) : Bounded (makeOffer s) := makeOffer_eq s ▸ h.after_offering

theorem after_setPort (h : Bounded s) {p : Port} {u : PortUnit} (hq : u.queue.length ≤ 8) (hk : u.strikes ≤ 15) :
    Bounded (setPort s p u) := by
  obtain ⟨hc, hw⟩ := h
  refine ⟨⟨fun x => ?_, fun x => ?_, hc.fence, hc.depth, hc.issue, hc.room⟩, hw⟩ <;>
    rw [setPort_ports, Fin.getElem_fin, set_get] <;> split_ifs
  · exact hq
  · exact hc.queues x
  · exact hk
  · exact hc.strikes x

/-- A port takes an arrival only with fewer than eight records in its queue (R45). -/
theorem after_accept (h : Bounded s) {p : Port} (hp : s.ports[p].queue.length < 8) (t : Txn) :
    Bounded (accept s p t) := by
  obtain ⟨st, a, w, u, portStats, events, -, ⟨hq, -, hk⟩, e⟩ := acceptSteps_frame s p t
  have hset : Bounded (setPort s p u) := h.after_setPort
    (by rw [hq, List.length_append]; exact hp) (hk.trans (max_le (h.1.strikes p) (Nat.le_refl _)))
  have hsteps : Bounded (acceptSteps s p t) := by
    rw [e]
    exact hset.of_ports rfl rfl rfl (Nat.le_refl _) (.inl rfl) rfl
  exact (hsteps.shrunk (.answerFront _ p)).after_makeOffer

theorem after_setArrival (h : Bounded s) (p : Port) (x : Option Txn) : Bounded (setArrival s p x) :=
  h.shrunk (.setPort s p (u := { s.ports[p] with arrival := x }) (Nat.le_refl _) (Nat.le_refl _))

theorem after_takeHeld (h : Bounded s) (p : Port) : Bounded (takeHeld s p) := by
  unfold takeHeld
  split
  · exact h
  · split_ifs with hoff
    · exact h
    · refine (h.after_setArrival p none).after_accept ?_ _
      simpa using queue_room_of_taken (Bool.eq_false_iff.mpr hoff)

theorem after_present (h : Bounded s) (p : Port) (t : Txn) : Bounded (present p t s) := by
  unfold present
  split_ifs with _ hoff
  · exact h
  · exact h.after_setArrival p (some t)
  · exact h.after_accept (queue_room_of_taken (Bool.eq_false_iff.mpr hoff)) t

theorem after_timeOut (h : Bounded s) : Bounded (timeOut s) := by
  rcases timeOut_cases s with e | ⟨x, -, e | e⟩ <;> rw [e]
  · exact h
  · exact h.shrunk ((Shrinks.afterTimeout s x).trans (.enterHalted _))
  · exact (h.shrunk ((Shrinks.afterTimeout s x).trans (.answerFront _ _))).after_makeOffer

theorem after_tickBoth (h : Bounded s) : Bounded (tickBoth s) := by
  have hu : Bounded (setIssue s (s.memory.issue.map countTick)) :=
    h.shrunk (.setIssue s (Nat.le_of_eq (List.length_map _)))
  rcases tickBoth_frame s with e | ⟨-, e⟩ | ⟨mode, pd, calendar, accounts, events, ports, hp, e⟩ <;> rw [e]
  · exact hu
  · exact hu.of_ports rfl rfl rfl (Nat.le_refl _) (by dsimp only; split_ifs; exacts [.inr rfl, .inl rfl]) rfl
  · refine Bounded.after_offering (hu.shrunk ⟨fun p => ?_, fun p => ?_, rfl, rfl, Nat.le_refl _, nofun, rfl⟩) <;>
      rcases hp p with hp | hp <;> dsimp only <;> rw [hp] <;> simp

/-- A take adds an entry, for which there was room (R78, R96). -/
theorem after_takeOffer (h : Bounded s) : Bounded (takeOffer s) := by
  rcases takeOffer_cases s with e | ⟨o, r, accounts, accountStats, events, ho, e⟩ <;> rw [e]
  · exact h
  have hq := h.shrunk (.setQueue s o.port (q := changeRecord s.ports[o.port].queue o.serial (issueRecord s o))
    (Nat.le_of_eq (List.length_map _)))
  have hroom : s.memory.issue.length < s.memory.depth := h.1.room (ho ▸ rfl)
  refine Bounded.after_offering ⟨⟨hq.1.queues, hq.1.strikes, h.1.fence, h.1.depth, ?_, nofun⟩, h.2⟩
  simpa [issued] using hroom

theorem after_complete (h : Bounded s) (c : Completion) : Bounded (complete c s) := by
  unfold complete
  split
  · exact h.shrunk (.report s _)
  · next e rest hl =>
    have hrest : Shrinks s (setIssue s rest) := .setIssue s (by rw [hl]; exact Nat.le_succ _)
    unfold completeEntry
    split
    · exact (h.shrunk (hrest.trans (.report _ _))).after_makeOffer
    · exact (h.shrunk (((hrest.trans (.settleRecord _ e _)).trans (.noteCompletion c e.port _ _)).trans
        (.answerFront _ e.port))).after_makeOffer

theorem after_enterEngaged (h : Bounded s) : Bounded (enterEngaged s) := by
  rw [enterEngaged_eq]
  exact (h.shrunk (.startedRun s)).after_offering

theorem after_startEngaging (h : Bounded s) (b : BankIx) : Bounded (startEngaging b s) := by
  have hm : Bounded (enterMode (setCalendar s { s.calendar with active := b }) .engaging) :=
    h.of_ports rfl rfl rfl (Nat.le_refl _) (.inl rfl) rfl
  simp only [startEngaging]
  split_ifs
  · exact hm.after_enterEngaged
  · exact hm

theorem after_rejudge (h : Bounded s) : Bounded (rejudge s) := by
  unfold rejudge
  refine Bounded.after_makeOffer ?_
  split
  · exact h
  · split_ifs
    · exact h
    · exact h.of_ports rfl rfl rfl (Nat.le_refl _) (.inr rfl) rfl

theorem after_setWindow (h : Bounded s) (p : Port) (i : WindowIx) {w : Window}
    (hw : w.base ≤ w.limit ∧ w.limit ≤ 4194303) : Bounded (setWindow s p i w) := by
  obtain ⟨⟨hq, hk, hf, hd, hi, hr⟩, hs⟩ := h
  refine ⟨⟨hq, hk, hf, hd, hi, hr⟩, fun x j => ?_⟩
  have hx : (setWindow s p i w).windows[x] = if p = x then s.windows[p].set i w else s.windows[x] := set_get ..
  rw [hx]
  split_ifs
  · rw [Fin.getElem_fin, set_get]
    split_ifs
    · exact hw
    · exact hs p j
  · exact hs x j

/-- Whatever a command does to the blocks, what it adds has room. -/
theorem after_deed {c : Instr} (h : Bounded s) (hd : Deed c s t) : Bounded t := by
  cases hd with
  | nothing => exact h
  | timeout => exact h.after_timeOut
  | drainEnd => exact h.after_enterEngaged
  | takeHeld p => exact h.after_takeHeld p
  | tick => exact h.after_tickBoth
  | arrival => exact h.after_present ..
  | withdrawal p => exact h.after_setArrival p none
  | take => exact h.after_takeOffer
  | completion => exact h.after_complete _
  | discard => exact (h.shrunk (.setIssue s (List.filter_sublist.length_le))).after_makeOffer
  | account a x => exact Bounded.after_rejudge (h.of_ports rfl rfl rfl (Nat.le_refl _) (.inl rfl) rfl)
  | window p i hw => exact h.after_setWindow p i hw
  | engage b => exact h.after_startEngaging b
  | pass k => exact Bounded.after_makeOffer (h.of_ports rfl rfl rfl (Nat.le_refl _) (.inl rfl) rfl)
  | halt => exact h.shrunk (.enterHalted s)
  | quiesce p flush =>
    have hq : Shrinks s (setPortState s p .quiescing) :=
      .setPort s p (u := { s.ports[p] with state := .quiescing }) (Nat.le_refl _) (Nat.le_refl _)
    refine Bounded.after_makeOffer (Bounded.shrunk ?_ (.answerFront _ p))
    split_ifs
    · exact h.shrunk (hq.trans (.flushPort _ p))
    · exact h.shrunk hq
  | resume p =>
    exact h.shrunk (.setPort s p (u := { s.ports[p] with state := .active, strikes := 0 }) (Nat.le_refl _)
      (Nat.zero_le _))
  | depth hn hi ho =>
    obtain ⟨⟨hq, hk, hf, -, -, -⟩, hw⟩ := h
    exact ⟨⟨hq, hk, hf, hn, by simp [hi], fun hs => by simp [ho] at hs⟩, hw⟩
  | fenceLimit hn =>
    obtain ⟨⟨hq, hk, -, hd, hi, hr⟩, hw⟩ := h
    exact ⟨⟨hq, hk, hn, hd, hi, hr⟩, hw⟩
  | calendar | override | settings | records => exact h.of_ports rfl rfl rfl (Nat.le_refl _) (.inl rfl) rfl

theorem law : DeedLaw Bounded where
  congr {s t} h e := by
    have he : ∀ {α : Type} (φ : State → α), φ (blocks t) = φ (blocks s) := fun φ => congrArg φ e
    have hm := he State.memory
    exact h.of_ports (he State.ports) (he State.fenceLimit) (congrArg MemorySide.depth hm)
      (Nat.le_of_eq (congrArg (·.issue.length) hm)) (.inl (he State.offer)) (he State.windows)
  reset := ⟨withinCapacity_reset, windowsSound_reset⟩
  deed h hd := h.after_deed hd

end Bounded

/-- Settles O53: every deed of a command keeps the capacities, and a step runs one command or none. -/
theorem capacitiesAreKept : Obligations.CapacitiesAreKept := by
  unfold Obligations.CapacitiesAreKept
  exact fun s t hc hw e => Bounded.law.step ⟨hc, hw⟩ e

end Sys2Proof.Machine
end

section
/-! SUPPORT. Promptness: a port whose front may have become answerable answers it, and the selector chooses again
wherever its choice may have changed. -/

namespace Sys2Proof.Machine

/-! ### Ports -/

/-- The port has nothing to answer and no quiescing to end (R50, R55). -/
def PortPrompt (u : PortUnit) : Prop :=
  (∀ r, u.queue.head? = some r → answerable r = false) ∧ (u.state = .quiescing → u.queue ≠ [])

theorem PortPrompt.congr {u v : PortUnit} (h : PortPrompt u) (hq : v.queue = u.queue) (hs : v.state = u.state) :
    PortPrompt v := by
  rw [PortPrompt, hq, hs]
  exact h

/-- Answering leaves nothing to answer. -/
theorem portPrompt_answeredPort (u : PortUnit) : PortPrompt (answeredPort u) := by
  refine ⟨fun r hr => ?_, fun hs hk => ?_⟩
  · have hn := List.head?_dropWhile_not answerable u.queue
    rw [show (u.queue.dropWhile answerable).head? = some r from hr] at hn
    simpa using hn
  · change (if u.state = .quiescing ∧ (answeredPort u).queue = [] then PortState.quiesced else u.state) = _ at hs
    split_ifs at hs with hc
    exact hc ⟨hs, hk⟩

/-- Changes in place that make no record answerable. -/
theorem PortPrompt.mapped {u : PortUnit} (h : PortPrompt u) {f : Record → Record}
    (hf : ∀ r, answerable r = false → answerable (f r) = false) : PortPrompt { u with queue := u.queue.map f } := by
  obtain ⟨hfront, hend⟩ := h
  refine ⟨fun r hr => ?_, fun hs => by simpa using hend hs⟩
  rw [List.head?_map, Option.map_eq_some_iff] at hr
  obtain ⟨x, hx, rfl⟩ := hr
  exact hf x (hfront x hx)

/-- Every port is prompt, and the issue list has a depth: what a choice of the selector makes a prompt state. -/
structure Attended (s : State) : Prop where
  depth : 1 ≤ s.memory.depth
  ports : ∀ p : Port, PortPrompt s.ports[p]

theorem Prompt.attended {s : State} (h : Prompt s) : Attended s :=
  ⟨h.depth, fun p => ⟨h.answers p, h.quiescing p⟩⟩

namespace Attended

variable {s t : State}

theorem congr (h : Attended s) (hp : t.ports = s.ports) (hd : t.memory.depth = s.memory.depth) : Attended t :=
  ⟨hd ▸ h.depth, hp ▸ h.ports⟩

/-- Where every other port is prompt, answering makes all of them so. -/
theorem after_answerFront (hd : 1 ≤ s.memory.depth) {p : Port} (ho : ∀ q : Port, q ≠ p → PortPrompt s.ports[q]) :
    Attended (answerFront s p) := by
  refine ⟨by rwa [memory_answerFront], fun q => ?_⟩
  rw [answerFront_port]
  split_ifs with hq
  · exact portPrompt_answeredPort _
  · exact ho q (Ne.symm hq)

/-- Whatever port `p` has come to, it answers, and the others are as they were. -/
theorem answered_at (h : Attended s) {p : Port} (hd : t.memory.depth = s.memory.depth)
    (ho : ∀ q : Port, q ≠ p → t.ports[q] = s.ports[q]) : Attended (answerFront t p) :=
  after_answerFront (hd ▸ h.depth) fun q hq => ho q hq ▸ h.ports q

theorem after_setPort (h : Attended s) (p : Port) {u : PortUnit} (hu : PortPrompt u) : Attended (setPort s p u) := by
  refine ⟨h.depth, fun q => ?_⟩
  rw [setPort_ports, Fin.getElem_fin, set_get]
  split_ifs
  · exact hu
  · exact h.ports q

theorem after_setArrival (h : Attended s) (p : Port) (x : Option Txn) : Attended (setArrival s p x) :=
  h.after_setPort p (u := { s.ports[p] with arrival := x }) ((h.ports p).congr rfl rfl)

/-- The selector chooses, and no offer that it could make is left (R79). -/
theorem offered (h : Attended s) : Prompt (offering s) := by
  refine ⟨h.depth, fun p => (h.ports p).1, fun p => (h.ports p).2, fun ho hroom => ?_⟩
  change (if s.offer = none ∧ s.memory.issue.length < s.memory.depth then choose s else s.offer) = none at ho
  split_ifs at ho with hc
  · exact ho
  · exact absurd ⟨ho, hroom⟩ hc

theorem makeOffer (h : Attended s) : Prompt (makeOffer s) := makeOffer_eq s ▸ h.offered

end Attended

/-! ### The choice -/

/-- The choice reads the mode, the slot that runs, the class of each record, the pointer, and the candidates. -/
theorem choose_congr {s t : State} (hm : t.mode = s.mode)
    (hc : s.mode = .engaged → currentSlot t.calendar = currentSlot s.calendar ∧ closing t.calendar = closing s.calendar)
    (hs : ∀ r, standing t.accounts r = standing s.accounts r) (hp : t.pointer = s.pointer)
    (hq : ∀ p : Port, candidate t.ports[p] = candidate s.ports[p]) : choose t = choose s := by
  have hoffer : ∀ g b p f, offerOf t g b p f = offerOf s g b p f := fun g b p f => by
    rw [offerOf, hq, offerOf]
  have hsearch : ∀ g l f, search t g l f = search s g l f := fun g l f => by
    simp only [search, hoffer]
  have hb : isInBudget t = isInBudget s := funext fun r => by rw [isInBudget, hs, isInBudget]
  have hk : isBackground t = isBackground s := funext fun r => by rw [isBackground, hs, isBackground]
  have howned : ∀ p i, chooseOwned t p i = chooseOwned s p i := fun p i => by
    cases i with
    | lend => simp only [chooseOwned_lend, hp, hb, hk, hoffer, hsearch]
    | hold => simp only [chooseOwned_hold, hb, hk, hoffer]
  have hopen : chooseOpen t = chooseOpen s := by
    simp only [chooseOpen, hp, hb, hk, hsearch]
  unfold choose
  rw [hm]
  cases hmode : s.mode with
  | pass => exact hp ▸ hsearch ..
  | engaging => exact hp ▸ hsearch ..
  | halted => rfl
  | engaged =>
    obtain ⟨hslot, hclosing⟩ := hc hmode
    simp only [hslot, hclosing, howned, hopen]

namespace Prompt

variable {s t : State}

/-- A prompt state stays so where the offer, the room for one and the choice are as they were. -/
theorem kept (h : Prompt s) (hp : ∀ p : Port, PortPrompt t.ports[p]) (hd : t.memory.depth = s.memory.depth)
    (hi : t.memory.issue.length = s.memory.issue.length) (ho : t.offer = s.offer) (hc : choose t = choose s) :
    Prompt t :=
  ⟨hd ▸ h.depth, fun p => (hp p).1, fun p => (hp p).2, fun hn hroom =>
    hc ▸ h.offer (ho ▸ hn) (by rwa [hd, hi] at hroom)⟩

/-- The same, where the ports and all that the choice reads are as they were. -/
theorem congr (h : Prompt s) (hp : t.ports = s.ports) (hd : t.memory.depth = s.memory.depth)
    (hi : t.memory.issue.length = s.memory.issue.length) (ho : t.offer = s.offer) (hc : choose t = choose s) :
    Prompt t :=
  h.kept (hp ▸ h.attended.ports) hd hi ho hc

/-- One port is replaced by a prompt one with the same queue. -/
theorem after_setPort (h : Prompt s) (p : Port) {u : PortUnit} (hu : PortPrompt u)
    (hq : u.queue = s.ports[p].queue) : Prompt (setPort s p u) := by
  refine h.kept (h.attended.after_setPort p hu).ports rfl rfl rfl
    (choose_congr rfl (fun _ => ⟨rfl, rfl⟩) (fun _ => rfl) rfl fun x => ?_)
  rw [setPort_ports, Fin.getElem_fin, set_get]
  split_ifs with hx
  · exact hx ▸ candidate_congr hq
  · rfl

/-! ### Deeds of the bus -/

theorem after_accept (h : Attended s) (p : Port) (t : Txn) : Prompt (accept s p t) := by
  obtain ⟨hm, -, -, ho⟩ := actsAt_acceptSteps s p t
  exact (h.answered_at (by rw [hm]) ho).makeOffer

theorem after_setArrival (h : Prompt s) (p : Port) (x : Option Txn) : Prompt (setArrival s p x) :=
  h.after_setPort p (u := { s.ports[p] with arrival := x }) ((h.attended.ports p).congr rfl rfl) rfl

theorem after_takeHeld (h : Prompt s) (p : Port) : Prompt (takeHeld s p) := by
  unfold takeHeld
  split
  · exact h
  · split_ifs
    · exact h
    · exact after_accept (h.attended.after_setArrival p none) p _

theorem after_present (h : Prompt s) (p : Port) (t : Txn) : Prompt (present p t s) := by
  unfold present
  split_ifs
  · exact h
  · exact h.after_setArrival p (some t)
  · exact after_accept h.attended p t

/-- A halt makes every port answer, and the selector offers nothing in HALTED (R84, R123). -/
theorem after_enterHalted (hd : 1 ≤ s.memory.depth) : Prompt (enterHalted s) := by
  have hports : ∀ p : Port, (enterHalted s).ports[p] = answeredPort (settledByHalt s).ports[p] := fun p => by
    rw [enterHalted_eq, reportMode, report_ports, answerAll_eq]
    exact (foldl_answerFront_port (answerOrder_nodup _) _ p).trans (if_pos (mem_answerOrder _ p))
  have hp : ∀ p : Port, PortPrompt (enterHalted s).ports[p] := fun p => hports p ▸ portPrompt_answeredPort _
  exact ⟨by rwa [memory_enterHalted], fun p => (hp p).1, fun p => (hp p).2, fun _ _ =>
    choose_halted (haltedFrom_enterHalted s).mode⟩

theorem settleRecord_other (s : State) (e : Entry) (f : Record → Record) {q : Port} (hq : q ≠ e.port) :
    (settleRecord s e f).ports[q] = s.ports[q] := by
  unfold settleRecord
  split
  · rfl
  · rw [changeIn, Fin.getElem_fin, port_setQueue, if_neg hq.symm]
    rfl

theorem after_timeOut (h : Prompt s) : Prompt (timeOut s) := by
  have hd : ∀ e, (afterTimeout s e).memory.depth = s.memory.depth := fun e => by
    rw [afterTimeout, report_memory, memory_settleRecord]
    rfl
  rcases timeOut_cases s with e | ⟨x, -, e | e⟩ <;> rw [e]
  · exact h
  · exact after_enterHalted (hd x ▸ h.depth)
  · exact (h.attended.answered_at (hd x) fun q hq => settleRecord_other _ x timedOut hq).makeOffer

theorem after_enterEngaged (h : Attended s) : Prompt (enterEngaged s) := by
  rw [enterEngaged_eq]
  refine Attended.offered ⟨h.depth, fun p => (h.ports p).congr ?_ ?_⟩ <;> simp [startedRun]

/-- A slot that a tick does not bring to its end runs on, and closes for good (R13, R86). -/
theorem after_tickBoth (h : Prompt s) : Prompt (tickBoth s) := by
  have hu : Prompt (setIssue s (s.memory.issue.map countTick)) := h.congr rfl rfl (List.length_map _) rfl rfl
  rcases tickBoth_frame s with e | ⟨hm, e⟩ | ⟨mode, pd, calendar, accounts, events, ports, hp, e⟩ <;> rw [e]
  · exact hu
  · split_ifs with hc
    · exact ⟨hu.depth, hu.answers, hu.quiescing, fun _ _ => choose_closing hm hc⟩
    · refine hu.congr rfl rfl rfl rfl (choose_congr rfl (fun _ => ⟨rfl, ?_⟩) (fun _ => rfl) rfl fun _ => rfl)
      have hopen : ¬ s.calendar.ticks ≤ (currentSlot s.calendar).cutoff := by omega
      exact (decide_eq_false hc).trans (decide_eq_false hopen).symm
  · refine Attended.offered ⟨hu.depth, fun p => (h.attended.ports p).congr ?_ ?_⟩ <;>
      rcases hp p with hp | hp <;> exact hp ▸ rfl

theorem after_takeOffer (h : Prompt s) : Prompt (takeOffer s) := by
  rcases takeOffer_cases s with e | ⟨o, r, accounts, accountStats, events, ho, e⟩ <;> rw [e]
  · exact h
  have hissued := h.attended.after_setPort o.port ((h.attended.ports o.port).mapped
    (f := fun y => if y.serial = o.serial then issueRecord s o y else y) fun y hy => by
      split_ifs
      · rfl
      · exact hy)
  exact Attended.offered (hissued.congr rfl rfl)

theorem noteCompletion_kept (c : Completion) (p : Port) (r : Option Record) (s : State) :
    (noteCompletion c p r s).ports = s.ports ∧ (noteCompletion c p r s).memory = s.memory := by
  unfold noteCompletion
  split
  · split_ifs <;> exact ⟨rfl, rfl⟩
  · exact ⟨rfl, rfl⟩

theorem after_complete (h : Prompt s) (c : Completion) : Prompt (complete c s) := by
  unfold complete
  split
  · exact h.congr rfl rfl rfl rfl rfl
  · next e rest _ =>
    unfold completeEntry
    split
    · exact Attended.makeOffer (h.attended.congr rfl rfl)
    · obtain ⟨hp, hm⟩ := noteCompletion_kept c e.port (recordOf s e)
        (settleRecord (setIssue s rest) e (completeRecord c))
      refine (h.attended.answered_at ?_ fun q hq => ?_).makeOffer
      · rw [hm, memory_settleRecord]
        rfl
      · rw [hp]
        exact settleRecord_other _ e _ hq

/-! ### Deeds of the service link -/

theorem after_rejudge (h : Attended s) : Prompt (rejudge s) := by
  unfold rejudge
  refine Attended.makeOffer ?_
  split
  · exact h
  · split_ifs
    · exact h
    · exact h.congr rfl rfl

/-- Between PASS and ENGAGING the choice is the same (R84, R94). -/
theorem after_startEngaging (h : Prompt s) (b : BankIx) (hm : s.mode = .pass) : Prompt (startEngaging b s) := by
  have hc : choose (enterMode (setCalendar s { s.calendar with active := b }) .engaging) = choose s := by
    rw [choose_idle (s := s) (.inl hm), choose_idle (.inr rfl)]
    rfl
  simp only [startEngaging]
  split_ifs
  · exact after_enterEngaged (h.attended.congr rfl rfl)
  · exact h.congr rfl rfl rfl rfl hc

/-- A staged override is no part of what a class reads (R38). -/
theorem after_override (h : Prompt s) (a : AccountIx) (v : Option Nat) :
    Prompt (setAccount s a { s.accounts[a] with override := v }) := by
  have hkept : ∀ {α : Type} (φ : Account → α), (∀ x, φ { x with override := v } = φ x) → ∀ b : AccountIx,
      φ (s.accounts.set a { s.accounts[a] with override := v })[b] = φ s.accounts[b] := fun φ hφ b => by
    rw [Fin.getElem_fin, set_get]
    split_ifs with hb
    · exact hb ▸ hφ _
    · rfl
  exact h.congr rfl rfl rfl rfl (choose_congr rfl (fun _ => ⟨rfl, rfl⟩)
    (standing_congr (hkept Account.parent fun _ => rfl) (hkept Account.count fun _ => rfl)
      (hkept Account.exhaust fun _ => rfl)) rfl fun _ => rfl)

theorem after_quiesce (h : Prompt s) (p : Port) (flush : Bool) :
    Prompt (Machine.makeOffer (answerFront
      (if flush then flushPort p (setPortState s p .quiescing) else setPortState s p .quiescing) p)) := by
  have hset : ∀ q : Port, q ≠ p → (setPortState s p .quiescing).ports[q] = s.ports[q] := fun q hq =>
    set_get_other _ _ hq.symm
  refine Attended.makeOffer ?_
  cases flush with
  | false => exact h.attended.answered_at rfl hset
  | true =>
    rw [if_pos rfl, flushPort_eq]
    exact h.attended.answered_at rfl fun q hq => (set_get_other _ _ hq.symm).trans (hset q hq)

/-- Whatever a command does to the blocks, what happens at once has happened. -/
theorem after_deed {c : Instr} (h : Prompt s) (hd : Deed c s t) : Prompt t := by
  cases hd with
  | nothing => exact h
  | timeout => exact h.after_timeOut
  | drainEnd => exact after_enterEngaged h.attended
  | takeHeld p => exact h.after_takeHeld p
  | tick => exact h.after_tickBoth
  | arrival => exact h.after_present ..
  | withdrawal p => exact h.after_setArrival p none
  | take => exact h.after_takeOffer
  | completion => exact h.after_complete _
  | discard => exact Attended.makeOffer (h.attended.congr rfl rfl)
  | calendar hk =>
    refine h.congr rfl rfl rfl rfl (choose_congr rfl (fun hm => ?_) (fun _ => rfl) rfl fun _ => rfl)
    obtain ⟨hslot, hticks⟩ := hk hm
    exact ⟨hslot, by rw [setCalendar_calendar, closing, hslot, hticks, closing]⟩
  | account a x => exact after_rejudge (h.attended.congr rfl rfl)
  | override a v => exact h.after_override a v
  | engage b hm => exact h.after_startEngaging b hm
  | pass k => exact Attended.makeOffer (h.attended.congr rfl rfl)
  | halt => exact after_enterHalted h.depth
  | quiesce p flush => exact h.after_quiesce p flush
  | resume p =>
    exact h.after_setPort p (u := { s.ports[p] with state := .active, strikes := 0 })
      ⟨(h.attended.ports p).1, nofun⟩ rfl
  | depth hn hi ho =>
    have hnone : choose s = none := h.offer ho (by rw [hi]; exact h.depth)
    exact ⟨hn.1, h.answers, h.quiescing, fun _ _ => hnone⟩
  | window | settings | fenceLimit | records => exact h.congr rfl rfl rfl rfl rfl

theorem law : DeedLaw Prompt where
  congr {s t} h e := by
    have he : ∀ {α : Type} (φ : State → α), φ (blocks t) = φ (blocks s) := fun φ => congrArg φ e
    have hm := he State.memory
    exact h.congr (he State.ports) (congrArg MemorySide.depth hm) (congrArg (·.issue.length) hm) (he State.offer)
      (he choose)
  reset := prompt_reset
  deed h hd := h.after_deed hd

end Prompt

/-- Settles O57: every deed of a command leaves nothing undone, and a step runs one command or none. -/
theorem nothingThatHappensAtOnceIsLeft : Obligations.NothingThatHappensAtOnceIsLeft := by
  unfold Obligations.NothingThatHappensAtOnceIsLeft
  exact fun s t h e => Prompt.law.step h e

end Sys2Proof.Machine
end

section
/-! SUPPORT. What becomes of the transactions that a port takes: each record is settled where it stands, and the answers
leave from the front in order. -/

namespace Sys2Proof.Machine

/-! ### Records -/

/-- In the course of the command `c` the record `r`, while its port holds it, stays as it is or is settled. -/
def Stays (c : Instr) (r r' : Record) : Prop := r' = r ∨ (SettledIn c r r' ∧ answerable r' = true)

variable {c : Instr}

theorem Stays.refl (r : Record) : Stays c r r := .inl rfl

/-- A record that is settled is settled for good. -/
theorem Stays.of_answerable {r r' : Record} (h : Stays c r r') (ha : answerable r = true) : r' = r := by
  rcases h with h | ⟨⟨-, -, -, hsame, -, -⟩, -⟩
  · exact h
  · exact hsame ha

theorem Stays.trans {r r' r'' : Record} (h : Stays c r r') (h' : Stays c r' r'') : Stays c r r'' := by
  rcases h with rfl | ⟨hset, ha⟩
  · exact h'
  · exact h'.of_answerable ha ▸ .inr ⟨hset, ha⟩

theorem Stays.key {r r' : Record} (h : Stays c r r') : (r.serial, r.txn) = (r'.serial, r'.txn) := by
  rcases h with rfl | ⟨⟨hs, ht, -⟩, -⟩
  · rfl
  · rw [hs, ht]

theorem answerable_settled {r : Record} (h : answerable r = true) : r.state ≠ .waiting ∧ r.state ≠ .issued := by
  refine ⟨fun hs => ?_, fun hs => ?_⟩ <;> rw [answerable, hs] at h <;> cases h

/-- What an answered record has become. -/
theorem Stays.settledIn {r r' : Record} (h : Stays c r r') (ha : answerable r' = true) : SettledIn c r r' := by
  rcases h with rfl | ⟨h, -⟩
  · obtain ⟨hw, hi⟩ := answerable_settled ha
    exact ⟨rfl, rfl, rfl, fun _ => rfl, fun h => absurd h hw, fun h => absurd h hi⟩
  · exact h

/-- A record that waits is settled by a flush or a halt. -/
theorem stays_settleWaiting {st : Status}
    (h : st = .halted ∨ (st = .flushed ∧ ∃ tag port flush, c = .quiesce tag port flush)) (r : Record) :
    Stays c r (settleWaiting st r) := by
  rw [settleWaiting_eq]
  split_ifs with hw
  · refine .inr ⟨⟨rfl, rfl, rfl, fun ha => absurd hw (answerable_settled ha).1, fun _ => ⟨rfl, ?_⟩, fun hi => ?_⟩, rfl⟩
    · exact h.imp (congrArg _) fun ⟨e, hc⟩ => ⟨congrArg _ e, hc⟩
    · rw [hw] at hi
      cases hi
  · exact .refl r

/-- A record that was issued is settled by a timeout or by the command's completion. -/
theorem stays_of_issued {r r' : Record} (hi : r.state = .issued) (hs : r'.serial = r.serial) (ht : r'.txn = r.txn)
    (hn : r'.note = r.note) (ha : answerable r' = true)
    (h : (r'.readData = r.readData
          ∧ (r'.state = .done .timeout ∨ (r'.state = .done .fault ∧ c = .completion .fault)))
        ∨ ∃ data, c = .completion (.good data) ∧ r'.state = .done .ok
            ∧ r'.readData = if r.txn.kind = .read then some data else none) : Stays c r r' :=
  .inr ⟨⟨hs, ht, hn, fun ha => absurd hi (answerable_settled ha).2, fun hw => (by simp [hw] at hi),
    fun _ => h⟩, ha⟩

theorem stays_timedOut {r : Record} (hi : r.state = .issued) : Stays c r (timedOut r) :=
  stays_of_issued hi rfl rfl rfl rfl (.inl ⟨rfl, .inl rfl⟩)

theorem stays_completeRecord {x : Completion} (hc : c = .completion x) {r : Record} (hi : r.state = .issued) :
    Stays c r (completeRecord x r) := by
  cases x with
  | good data =>
    refine stays_of_issued hi rfl rfl rfl rfl (.inr ⟨data, hc, rfl, ?_⟩)
    cases hk : r.txn.kind <;> simp [completeRecord, hk]
  | fault => exact stays_of_issued hi rfl rfl rfl rfl (.inl ⟨rfl, .inr ⟨rfl, hc⟩⟩)

/-! ### Ports -/

/-- From `s` to `t`, in the course of the command `c`, port `p` takes the records `taken` and answers the records
`final`: what it held and took is, settled or as it was, what it has answered and what it holds. -/
structure Handled (c : Instr) (p : Port) (s t : State) (taken final : List Record) : Prop where
  records : List.Forall₂ (Stays c) (s.ports[p].queue ++ taken) (final ++ t.ports[p].queue)
  settled : ∀ r ∈ final, answerable r = true
  answers : t.outputs.answers[p] = s.outputs.answers[p] ++ final.map answerOf
  taken : ∀ r ∈ taken, s.serial ≤ r.serial
    ∧ ∃ x, AsTaken x r ∧ (s.ports[p].arrival = some x ∨ c = .arrival p x)
  serial : s.serial ≤ t.serial
  arrival : ∀ x, t.ports[p].arrival = some x → s.ports[p].arrival = some x ∨ c = .arrival p x

/-- The same, whatever records it takes and answers. -/
def Handles (c : Instr) (p : Port) (s t : State) : Prop := ∃ taken final, Handled c p s t taken final

variable {p : Port} {s t : State}

theorem forall₂_stays_refl (l : List Record) : List.Forall₂ (Stays c) l l := List.forall₂_same.mpr fun r _ => .refl r

theorem forall₂_stays_append {l l' m m' : List Record} (h : List.Forall₂ (Stays c) l m)
    (h' : List.Forall₂ (Stays c) l' m') : List.Forall₂ (Stays c) (l ++ l') (m ++ m') := List.rel_append h h'

theorem forall₂_stays_trans {l m n : List Record} (h : List.Forall₂ (Stays c) l m) (h' : List.Forall₂ (Stays c) m n) :
    List.Forall₂ (Stays c) l n := by
  induction h generalizing n with
  | nil => exact h'
  | cons hr _ ih =>
    obtain ⟨_, _, hr', htail, rfl⟩ := List.forall₂_cons_left_iff.mp h'
    exact .cons (hr.trans hr') (ih htail)

namespace Handles

/-- Nothing is taken and nothing answered: the records that the port holds stay or are settled where they stand. -/
theorem kept (hq : List.Forall₂ (Stays c) s.ports[p].queue t.ports[p].queue)
    (ha : t.outputs.answers[p] = s.outputs.answers[p]) (hs : s.serial ≤ t.serial)
    (hx : ∀ x, t.ports[p].arrival = some x → s.ports[p].arrival = some x ∨ c = .arrival p x) : Handles c p s t :=
  ⟨[], [], by simpa using hq, List.forall_mem_nil _, by simpa using ha, List.forall_mem_nil _, hs, hx⟩

/-- What the traffic of the port reads is as it was. -/
theorem quiet (hq : t.ports[p].queue = s.ports[p].queue) (hx : t.ports[p].arrival = s.ports[p].arrival)
    (ha : t.outputs.answers[p] = s.outputs.answers[p]) (hs : s.serial ≤ t.serial) : Handles c p s t :=
  kept (hq ▸ forall₂_stays_refl _) ha hs fun _ h => .inl (hx ▸ h)

/-- The same, where no port has changed at all. -/
theorem same (hp : t.ports = s.ports) (ha : t.outputs.answers = s.outputs.answers) (hs : t.serial = s.serial) :
    Handles c p s t :=
  quiet (by rw [hp]) (by rw [hp]) (by rw [ha]) (Nat.le_of_eq hs.symm)

theorem refl (s : State) : Handles c p s s := same rfl rfl rfl

/-- What is taken and answered first comes before what is taken and answered later. -/
theorem trans {u : State} (h : Handles c p s t) (h' : Handles c p t u) : Handles c p s u := by
  obtain ⟨taken, final, hrecords, hsettled, hanswers, htaken, hserial, harrival⟩ := h
  obtain ⟨taken', final', hrecords', hsettled', hanswers', htaken', hserial', harrival'⟩ := h'
  have hfrom : ∀ x, t.ports[p].arrival = some x ∨ c = .arrival p x → s.ports[p].arrival = some x ∨ c = .arrival p x :=
    fun x hx => hx.elim (harrival x) .inr
  refine ⟨taken ++ taken', final ++ final', ?_, fun r hr => ?_, ?_, fun r hr => ?_, hserial.trans hserial',
    fun x hx => hfrom x (harrival' x hx)⟩
  · have hfirst := forall₂_stays_append hrecords (forall₂_stays_refl taken')
    have hthen := forall₂_stays_append (forall₂_stays_refl final) hrecords'
    simp only [List.append_assoc] at hfirst ⊢
    exact forall₂_stays_trans hfirst hthen
  · exact (List.mem_append.mp hr).elim (hsettled r) (hsettled' r)
  · rw [hanswers', hanswers, List.map_append, List.append_assoc]
  · rcases List.mem_append.mp hr with hr | hr
    · exact htaken r hr
    · obtain ⟨hle, x, has, hx⟩ := htaken' r hr
      exact ⟨hserial.trans hle, x, has, hfrom x hx⟩

/-- Port `q` may have another queue, which is the old one with records settled where they stand. -/
theorem after_setQueue {q : Port} {f : Record → Record} (hf : q = p → ∀ r ∈ s.ports[p].queue, Stays c r (f r)) :
    Handles c p s (setQueue s q (s.ports[q].queue.map f)) := by
  have hget : (setQueue s q (s.ports[q].queue.map f)).ports[p] =
      if q = p then { s.ports[q] with queue := s.ports[q].queue.map f } else s.ports[p] := set_get ..
  refine kept ?_ rfl (Nat.le_refl _) fun x hx => .inl ?_ <;> rw [hget] at * <;> split_ifs at * with hq
  · subst hq
    exact List.forall₂_map_right_iff.mpr (List.forall₂_same.mpr (hf rfl))
  · exact forall₂_stays_refl _
  · exact hq ▸ hx
  · exact hx

/-- A port answers the answerable run at its front (R50). -/
theorem after_answerFront (s : State) (q : Port) : Handles c p s (answerFront s q) := by
  have hs : (answerFront s q).serial = s.serial := by
    rw [answerFront_eq]
    rfl
  by_cases hq : q = p
  · subst hq
    refine ⟨[], s.ports[q].queue.takeWhile answerable, ?_, fun r hr => List.mem_takeWhile_imp hr, ?_,
      List.forall_mem_nil _,       Nat.le_of_eq hs.symm, fun x hx => .inl ?_⟩
    · rw [answerFront_queue, List.takeWhile_append_dropWhile, List.append_nil]
      exact forall₂_stays_refl _
    · rw [answerFront_answers, if_pos rfl]
      rfl
    · rw [answerFront_port, if_pos rfl] at hx
      exact hx
  · have hp : (answerFront s q).ports[p] = s.ports[p] := answerFront_other s q p hq
    exact quiet (by rw [hp]) (by rw [hp]) (by rw [answerFront_answers, if_neg hq]) (Nat.le_of_eq hs.symm)

theorem after_makeOffer (s : State) : Handles c p s (makeOffer s) := by
  rw [makeOffer_eq]
  exact same rfl rfl rfl

/-! ### Taking an arrival (R44 to R47) -/

/-- An arrival is taken: `u` is `s` with the arrival, if the port held it off, no longer there. -/
theorem after_accept {u : State} {q : Port} {x : Txn} (hq : u.ports[p].queue = s.ports[p].queue)
    (ha : u.outputs.answers = s.outputs.answers) (hs : u.serial = s.serial)
    (hx : ∀ y, u.ports[p].arrival = some y → s.ports[p].arrival = some y)
    (hfrom : q = p → s.ports[p].arrival = some x ∨ c = .arrival p x) : Handles c p s (accept u q x) := by
  obtain ⟨st, a, w, v, portStats, events, hst, ⟨hvq, hva, -⟩, e⟩ := acceptSteps_frame u q x
  have hsteps : Handles c p s (acceptSteps u q x) := by
    rw [e]
    by_cases hqp : q = p
    · subst hqp
      refine ⟨[newRecord u x st a w], [], ?_, List.forall_mem_nil _, ?_, fun r hr => ?_, ?_, fun y hy => .inl (hx y ?_)⟩
      · have hv : (u.ports.set q v)[q] = v := Vector.getElem_set_self ..
        dsimp only
        rw [hv, hvq, hq]
        exact forall₂_stays_refl _
      · simp [ha]
      · rw [List.mem_singleton.mp hr]
        exact ⟨Nat.le_of_eq hs.symm, x, ⟨rfl, rfl, rfl, hst⟩, hfrom rfl⟩
      · exact hs ▸ Nat.le_succ _
      · simpa [hva] using hy
    · have hp : (u.ports.set q v)[p] = u.ports[p] := set_get_other _ _ hqp
      refine kept ?_ (by rw [ha]) (hs ▸ Nat.le_succ _) fun y hy => .inl (hx y (hp ▸ hy))
      dsimp only
      rw [hp, hq]
      exact forall₂_stays_refl _
  exact (hsteps.trans (after_answerFront _ q)).trans (after_makeOffer _)

theorem after_setArrival (s : State) (q : Port) {y : Option Txn}
    (hy : ∀ x, q = p → y = some x → c = .arrival p x) : Handles c p s (setArrival s q y) := by
  have hget : (setArrival s q y).ports[p] = if q = p then { s.ports[q] with arrival := y } else s.ports[p] :=
    set_get ..
  refine kept ?_ rfl (Nat.le_refl _) fun x hx => ?_ <;> rw [hget] at * <;> split_ifs at * with hq
  · subst hq
    exact forall₂_stays_refl _
  · exact forall₂_stays_refl _
  · exact .inr (hy x hq hx)
  · exact .inl hx

theorem after_takeHeld (s : State) (q : Port) : Handles c p s (takeHeld s q) := by
  unfold takeHeld
  split
  · exact refl s
  · next x hx =>
    split_ifs
    · exact refl s
    · have hget : (setArrival s q none).ports[p] = if q = p then { s.ports[q] with arrival := none } else s.ports[p] :=
        set_get ..
      refine after_accept ?_ rfl rfl (fun y hy => ?_) fun hq => .inl (hq ▸ hx)
      · rw [hget]
        split_ifs with hq
        · exact hq ▸ rfl
        · rfl
      · rw [hget] at hy
        split_ifs at hy
        exact hy

theorem after_present (s : State) {q : Port} {x : Txn} (hc : c = .arrival q x) : Handles c p s (present q x s) := by
  have hfrom : q = p → c = .arrival p x := fun hq => hq ▸ hc
  unfold present
  split_ifs
  · exact refl s
  · exact after_setArrival s q fun y hq hy => Option.some.inj hy ▸ hfrom hq
  · exact after_accept rfl rfl rfl (fun _ hy => hy) fun hq => .inr (hfrom hq)

/-! ### Settling (R54, R101, R104, R123) -/

/-- The record that a waiting entry serves is ISSUED, and no other record of its port has its name (R96). -/
theorem after_settleRecord (h : Coherent s) {e : Entry} (he : e ∈ s.memory.issue) (hw : e.state = .waiting)
    (l : List Entry) {f : Record → Record} (hf : ∀ r, r.state = .issued → Stays c r (f r)) :
    Handles c p s (settleRecord (setIssue s l) e f) := by
  obtain ⟨r, hr, hn, hi⟩ := h.entries.waiting e he hw
  rw [settleRecord, hn]
  refine (same rfl rfl rfl : Handles c p s (setIssue s l)).trans (after_setQueue fun hp x hx => ?_)
  subst hp
  split_ifs with hx'
  · exact hf x (h.records.serial_inj hx hr hx' ▸ hi)
  · exact .refl x

theorem after_enterHalted (s : State) : Handles c p s (enterHalted s) := by
  have hports := (haltedFrom_enterHalted s).ports
  have hanswers := (haltedFrom_enterHalted s).answers
  obtain ⟨-, -, -, -, -, -, -, hserial, -⟩ := enterHalted_kept s
  refine ⟨[], (s.ports[p].queue.map haltedRecord).takeWhile answerable, ?_, fun r hr => List.mem_takeWhile_imp hr,
    hanswers p, List.forall_mem_nil _, Nat.le_of_eq hserial.symm, fun x hx => .inl (by rw [hports p] at hx; exact hx)⟩
  rw [hports p, List.takeWhile_append_dropWhile, List.append_nil, ← settleWaiting_halted]
  exact List.forall₂_map_right_iff.mpr (List.forall₂_same.mpr fun r _ => stays_settleWaiting (.inl rfl) r)

theorem after_timeOut (h : Coherent s) : Handles c p s (timeOut s) := by
  rcases timeOut_cases s with e | ⟨x, hx, ht⟩
  · rw [e]
    exact refl s
  obtain ⟨hw, -, -⟩ := (timeoutDue_iff x).mp (List.find?_some hx)
  have hset : Handles c p s (afterTimeout s x) :=
    (after_settleRecord h (List.mem_of_find?_eq_some hx) hw _ fun _ => stays_timedOut).trans (same rfl rfl rfl)
  rcases ht with e | e <;> rw [e]
  · exact hset.trans (after_enterHalted _)
  · exact (hset.trans (after_answerFront _ _)).trans (after_makeOffer _)

theorem after_enterEngaged (s : State) : Handles c p s (enterEngaged s) := by
  rw [enterEngaged_eq]
  exact quiet (by simp [offering, startedRun]) (by simp [offering, startedRun]) rfl (Nat.le_refl _)

/-- What is due before the command comes about (R44, R104, R118). -/
theorem after_settle (h : Coherent s) : Handles c p s (settle s) := by
  have hfold : ∀ (l : List Port) (u : State), Handles c p u (l.foldl takeHeld u) := fun l => by
    induction l with
    | nil => exact refl
    | cons q l ih => exact fun u => (after_takeHeld u q).trans (ih _)
  have htime : ∀ (n : Nat) (u : State), Coherent u → Handles c p u (timeOutAll n u) := fun n => by
    induction n with
    | zero => exact fun u _ => refl u
    | succ n ih => exact fun u hu => (after_timeOut hu).trans (ih _ hu.after_timeOut)
  have ht := htime s.memory.issue.length s h
  rw [settle_eq]
  refine Handles.trans ?_ (hfold allPorts _)
  split_ifs
  · exact ht.trans (after_enterEngaged _)
  · exact ht

/-! ### Every deed -/

theorem after_tickBoth (s : State) : Handles c p s (tickBoth s) := by
  rcases tickBoth_frame s with e | ⟨-, e⟩ | ⟨mode, pd, calendar, accounts, events, ports, hp, e⟩ <;> rw [e]
  · exact same rfl rfl rfl
  · exact same rfl rfl rfl
  · refine quiet ?_ ?_ rfl (Nat.le_refl _) <;> rcases hp p with hp | hp <;> exact hp ▸ rfl

theorem after_complete (h : Coherent s) {x : Completion} (hc : c = .completion x) : Handles c p s (complete x s) := by
  unfold complete
  split
  · exact same rfl rfl rfl
  · next e rest hl =>
    unfold completeEntry
    split
    · exact (same rfl rfl rfl : Handles c p s (report (setIssue s rest) _)).trans (after_makeOffer _)
    · next hw =>
      have hnote : ∀ u r, Handles c p u (noteCompletion x e.port r u) := fun u r => by
        unfold noteCompletion
        split
        · split_ifs <;> exact same rfl rfl rfl
        · exact same rfl rfl rfl
      have hset : Handles c p s (settleRecord (setIssue s rest) e (completeRecord x)) :=
        after_settleRecord h (hl ▸ List.mem_cons_self) hw rest fun _ => stays_completeRecord hc
      exact ((hset.trans (hnote _ _)).trans (after_answerFront _ _)).trans (after_makeOffer _)

theorem after_rejudge (s : State) : Handles c p s (rejudge s) := by
  rw [rejudge_eq]
  exact same rfl rfl rfl

theorem after_setPort (s : State) (q : Port) {u : PortUnit} (hq : u.queue = s.ports[q].queue)
    (hx : u.arrival = s.ports[q].arrival) : Handles c p s (setPort s q u) := by
  have hget : (setPort s q u).ports[p] = if q = p then u else s.ports[p] := set_get ..
  refine quiet ?_ ?_ rfl (Nat.le_refl _) <;> rw [hget] <;> split_ifs with hp
  · exact hp ▸ hq
  · rfl
  · exact hp ▸ hx
  · rfl

theorem after_startEngaging (s : State) (b : BankIx) : Handles c p s (startEngaging b s) := by
  have hm : Handles c p s (enterMode (setCalendar s { s.calendar with active := b }) .engaging) := same rfl rfl rfl
  simp only [startEngaging]
  split_ifs
  · exact hm.trans (after_enterEngaged _)
  · exact hm

theorem after_quiesce (s : State) (q : Port) (flush : Bool) (hc : ∃ tag port flag, c = .quiesce tag port flag) :
    Handles c p s (makeOffer (answerFront
      (if flush then flushPort q (setPortState s q .quiescing) else setPortState s q .quiescing) q)) := by
  have hstate : Handles c p s (setPortState s q .quiescing) :=
    after_setPort s q (u := { s.ports[q] with state := .quiescing }) rfl rfl
  have hflush : ∀ u : State, Handles c p u (flushPort q u) := fun u => by
    rw [flushPort_eq]
    exact Handles.trans (after_setQueue (q := q) fun _ r _ => stays_settleWaiting (.inr ⟨rfl, hc⟩) r)
      (same rfl rfl rfl)
  refine Handles.trans ?_ ((after_answerFront _ q).trans (after_makeOffer _))
  split_ifs
  · exact hstate.trans (hflush _)
  · exact hstate

/-- Whatever a command does to the blocks but a take, the port handles its records. -/
theorem after_deed (h : Coherent s) (hd : Deed c s t) : Handles c p s t ∨ t = takeOffer s := by
  cases hd with
  | take => exact .inr rfl
  | nothing => exact .inl (refl s)
  | timeout => exact .inl (after_timeOut h)
  | drainEnd => exact .inl (after_enterEngaged s)
  | takeHeld q => exact .inl (after_takeHeld s q)
  | tick => exact .inl (after_tickBoth s)
  | arrival hc => exact .inl (after_present s hc)
  | withdrawal q => exact .inl (after_setArrival s q nofun)
  | completion hc => exact .inl (after_complete h hc)
  | discard =>
    exact .inl (Handles.trans (t := setIssue s (s.memory.issue.filter waitsForCompletion)) (same rfl rfl rfl)
      (after_makeOffer _))
  | account a x => exact .inl ((same rfl rfl rfl : Handles c p s (setAccount s a x)).trans (after_rejudge _))
  | engage b => exact .inl (after_startEngaging s b)
  | pass k =>
    exact .inl ((same rfl rfl rfl : Handles c p s (enterMode (setCalendar s k) .pass)).trans (after_makeOffer _))
  | halt => exact .inl (after_enterHalted s)
  | quiesce q flush hc => exact .inl (after_quiesce s q flush hc)
  | resume q => exact .inl (after_setPort s q (u := { s.ports[q] with state := .active, strikes := 0 }) rfl rfl)
  | calendar | override | window | depth | settings | fenceLimit | records => exact .inl (same rfl rfl rfl)

end Handles

theorem Alike.kept (h : Alike s t) : t.ports = s.ports ∧ t.serial = s.serial ∧ t.outputs.answers = s.outputs.answers := by
  obtain ⟨hb, ha⟩ := h
  have he : ∀ {α : Type} (φ : State → α), φ (blocks t) = φ (blocks s) := fun φ => congrArg φ hb
  exact ⟨he State.ports, he State.serial, ha⟩

/-- A record as the claim names it: its serial and its transaction. -/
def keyOf (r : Record) : Nat × Txn := (r.serial, r.txn)

/-- A take changes no name and no transaction, and answers nothing (R81). -/
theorem takeOffer_keys (s : State) (p : Port) :
    (takeOffer s).ports[p].queue.map keyOf = s.ports[p].queue.map keyOf
      ∧ (takeOffer s).outputs.answers = s.outputs.answers := by
  rcases takeOffer_cases s with e | ⟨o, r, accounts, accountStats, events, -, e⟩ <;> rw [e]
  · exact ⟨rfl, rfl⟩
  refine ⟨?_, rfl⟩
  have hget : (issued s o r).ports[p] = if o.port = p then { s.ports[o.port] with
      queue := s.ports[o.port].queue.map fun y => if y.serial = o.serial then issueRecord s o y else y }
    else s.ports[p] := set_get ..
  change (issued s o r).ports[p].queue.map keyOf = _
  rw [hget]
  split_ifs with hp
  · subst hp
    refine (List.map_map ..).trans (List.map_congr_left fun y _ => ?_)
    dsimp only [Function.comp]
    split_ifs <;> rfl
  · rfl

/-- The port handles its records up to a state in which they have the same names and transactions. -/
theorem runs_handles (h : Coherent s) (hr : Runs c s t) (p : Port) :
    ∃ u, Handles c p (begin s) u ∧ t.ports[p].queue.map keyOf = u.ports[p].queue.map keyOf
      ∧ t.outputs.answers = u.outputs.answers := by
  obtain ⟨b, u, v, hb, hu, hd, ht⟩ := hr
  have hcb : Coherent b := Coherent.law.congr h hb.1
  obtain ⟨hbp, hbserial, hba⟩ := hb.kept
  have hbs : Handles c p (begin s) b := .same hbp hba hbserial
  obtain ⟨htp, -, hta⟩ := ht.kept
  have hbu : Coherent u ∧ Handles c p (begin s) u := by
    rcases hu with rfl | rfl
    · exact ⟨hcb, hbs⟩
    · exact ⟨hcb.after_settle, hbs.trans (.after_settle hcb)⟩
  obtain ⟨hcu, hbu⟩ := hbu
  rw [htp, hta]
  rcases Handles.after_deed hcu hd with hd | rfl
  · exact ⟨v, hbu.trans hd, rfl, rfl⟩
  · exact ⟨u, hbu, takeOffer_keys u p⟩

theorem settledIn_of_stays {l m : List Record} (h : List.Forall₂ (Stays c) l m) (ha : ∀ r ∈ m, answerable r = true) :
    List.Forall₂ (SettledIn c) l m := by
  induction h with
  | nil => exact .nil
  | cons hr _ ih =>
    obtain ⟨har, ha⟩ := List.forall_mem_cons.mp ha
    exact .cons (hr.settledIn har) (ih ha)

/-- Settles O60: what the port held and took is what it has answered and what it holds, record by record. -/
theorem everyTakenTransactionIsAnsweredOnceInOrder : Obligations.EveryTakenTransactionIsAnsweredOnceInOrder := by
  unfold Obligations.EveryTakenTransactionIsAnsweredOnceInOrder
  intro c s t p hc h e
  obtain ⟨t', ht', hrun⟩ := exec_runs s hc
  obtain rfl : t' = t := Host.Outcome.next.inj (ht'.symm.trans e)
  obtain ⟨u, ⟨taken, final, hrecords, hsettled, hanswers, htaken, -, -⟩, hkeys, hta⟩ := runs_handles h hrun p
  have hgone := List.forall₂_take_append _ _ _ hrecords
  have hkept := List.forall₂_drop_append _ _ _ hrecords
  refine ⟨taken, _, _, final, (List.take_append_drop final.length _).symm, htaken, ?_, ?_, ?_⟩
  · refine Eq.trans ?_ hkeys.symm
    exact List.forall₂_eq_eq_eq ▸ (List.forall₂_map_left_iff.mpr (List.forall₂_map_right_iff.mpr
      (hkept.imp fun _ _ => Stays.key)))
  · exact settledIn_of_stays hgone hsettled
  · rw [hta, hanswers]
    simp [Outputs.silent]

end Sys2Proof.Machine
end

section
/-! SUPPORT. The commands of the ports and the parameters as a ready link meets them, and the bus while RESET# is
asserted. -/

namespace Sys2Proof.Machine

/-! ### Operands -/

@[simp] theorem flag?_flagByte (b : Bool) : flag? (flagByte b) = some b := by
  cases b <;> decide

theorem faultAction?_none {value : Quad} (h : 1 < value.toNat) : faultAction? value = none := by
  unfold faultAction?
  rw [if_neg, if_neg] <;> rintro rfl <;> simp at h

theorem alertMask?_inRange {value : Quad} (h : value.toNat < 8192) : alertMask? value = some (value.setWidth 13) :=
  if_pos h

theorem alertMask?_none {value : Quad} (h : 8192 ≤ value.toNat) : alertMask? value = none :=
  if_neg (Nat.not_lt.mpr h)

theorem parameterResult_toNat (i : Byte) (value : Quad) : parameterResult i value.toNat = i :: quadBytes value := by
  simp [parameterResult, fourBytes]

theorem eventKindCode_lt (k : EventKind) : eventKindCode k < 13 := by
  cases k <;> decide

/-- ALERT# with the mask that a value carries: bit n of the value stands for kind code n (R136, R137). -/
theorem alertJudged_setWidth (queue : List Event) (value : Quad) :
    alertJudged queue (value.setWidth 13) = queue.any fun e => value.getLsbD (eventKindCode e.report.kind) := by
  unfold alertJudged
  congr 1
  funext e
  rw [inMask, BitVec.getLsbD_setWidth, decide_eq_true (eventKindCode_lt _), Bool.true_and]

/-! ### SET_PARAM and RESUME -/

section Commands

variable {s t : State} {tag : Byte} {st : LinkStatus} {res : List Byte} {value : Quad}

theorem exec_setTimeout (h : Ready s)
    (e : (checked (ranged? 0 65535 value) (begin s) fun n =>
      (⟨{ begin s with memory := { s.memory with timeout := n } }, .done, parameterResult 0x03 n⟩ : Reply))
        = ⟨begin t, st, res⟩) :
    exec (.setTimeout tag value) s = .next (afterTransfer s.link t (response st tag 0x60 res)) :=
  congrArg Host.Outcome.next (serve_reply h (fun w _ => placed_checked w fun _ => rfl) e)

theorem exec_setFaultAction (h : Ready s)
    (e : (checked (faultAction? value) (begin s) fun a =>
      (⟨{ begin s with memory := { s.memory with faultAction := a } }, .done,
        parameterResult 0x04 (faultActionCode a)⟩ : Reply)) = ⟨begin t, st, res⟩) :
    exec (.setFaultAction tag value) s = .next (afterTransfer s.link t (response st tag 0x60 res)) :=
  congrArg Host.Outcome.next (serve_reply h (fun w _ => placed_checked w fun _ => rfl) e)

theorem exec_setFenceLimit (h : Ready s)
    (e : (checked (ranged? 0 15 value) (begin s) fun n =>
      (⟨{ begin s with fenceLimit := n }, .done, parameterResult 0x05 n⟩ : Reply)) = ⟨begin t, st, res⟩) :
    exec (.setFenceLimit tag value) s = .next (afterTransfer s.link t (response st tag 0x60 res)) :=
  congrArg Host.Outcome.next (serve_reply h (fun w _ => placed_checked w fun _ => rfl) e)

theorem exec_setAlertMask (h : Ready s)
    (e : (checked (alertMask? value) (begin s) fun m => setMask m (begin s)) = ⟨begin t, st, res⟩) :
    exec (.setAlertMask tag value) s = .next (afterTransfer s.link t (response st tag 0x60 res)) :=
  congrArg Host.Outcome.next (serve_reply h (fun w _ => placed_checked w fun _ => rfl) e)

theorem exec_resume {port : Byte} (h : Ready s)
    (e : (checked (port? port) (begin s) fun p => resumePort p (begin s)) = ⟨begin t, st, res⟩) :
    exec (.resume tag port) s = .next (afterTransfer s.link t (response st tag 0x51 res)) :=
  congrArg Host.Outcome.next (serve_reply h (fun w s => placed_checked w fun p => placed_resumePort w s p) e)

end Commands

/-- Settles O17: each value is checked against its range, and the setting is replaced. -/
theorem parametersSetInEveryMode : Obligations.ParametersSetInEveryMode := by
  unfold Obligations.ParametersSetInEveryMode
  intro s tag value h
  have hresult := fun i => parameterResult_toNat i value
  refine ⟨fun hv => exec_setTimeout h ?_, fun hv => exec_setTimeout h ?_, fun hv => exec_setFaultAction h ?_,
    fun hv => exec_setFaultAction h ?_, fun hv => exec_setFaultAction h ?_, fun hv => exec_setFenceLimit h ?_,
    fun hv => exec_setFenceLimit h ?_, fun hv => exec_setAlertMask h ?_, fun hv => exec_setAlertMask h ?_⟩
  · rw [ranged?_inRange (Nat.zero_le _) hv, checked_some, hresult]
    rfl
  · rw [ranged?_none (.inr hv)]
    rfl
  · obtain rfl : value = 0 := BitVec.eq_of_toNat_eq hv
    rfl
  · obtain rfl : value = 1 := BitVec.eq_of_toNat_eq hv
    rfl
  · rw [faultAction?_none hv]
    rfl
  · rw [ranged?_inRange (Nat.zero_le _) hv, checked_some, hresult]
    rfl
  · rw [ranged?_none (.inr hv)]
    rfl
  · have hmask : (value.setWidth 13).toNat = value.toNat := by
      rw [BitVec.toNat_setWidth, Nat.mod_eq_of_lt hv]
    rw [alertMask?_inRange hv, checked_some, setMask, alertJudged_setWidth, hmask, hresult]
    rfl
  · rw [alertMask?_none hv]
    rfl

theorem resumePort_active {s : State} {p : Port} (h : s.ports[p].state = .active) :
    resumePort p s = ⟨s, .done, []⟩ := by
  rw [resumePort, h]

theorem resumePort_other {s : State} {p : Port} (h : s.ports[p].state ≠ .active) :
    resumePort p s = ⟨setPort s p { s.ports[p] with state := .active, strikes := 0 }, .done, []⟩ := by
  unfold resumePort
  split
  · next ha => exact absurd ha h
  all_goals rfl

/-- Settles O29: the two cases of the port's state, and a port byte out of range. -/
theorem resumeMakesThePortActive : Obligations.ResumeMakesThePortActive := by
  unfold Obligations.ResumeMakesThePortActive
  refine fun s tag p h => ⟨fun hs => exec_resume h ?_, fun hs => exec_resume h ?_, fun port hp => exec_resume h ?_⟩
  · rw [port?_byteOf, checked_some, resumePort_other (s := begin s) hs]
    rfl
  · rw [port?_byteOf, checked_some, resumePort_active (s := begin s) hs]
  · rw [port?, index?_none hp]
    rfl

/-! ### QUIESCE -/

/-- Where a transfer closes, what LDO has shown in it is a surrounding of the blocks. -/
def closingOf (s : State) : Surroundings where
  pending := s.pending
  inReset := s.inReset
  link := s.link
  presented := (transferOutputs s.link).presented
  ldo := (transferOutputs s.link).ldo
  answers := Vector.replicate 4 []
  forwarded := id

theorem transferOutputs_eq (l : Link) :
    transferOutputs l = ⟨Vector.replicate 4 [], none, (transferOutputs l).presented, (transferOutputs l).ldo⟩ := by
  unfold transferOutputs linkOutputs
  split <;> rfl

theorem within_closingOf (s : State) :
    within (closingOf s) (begin s) = { s with outputs := transferOutputs s.link } := by
  have ha : (Vector.ofFn fun p : Port =>
      (Vector.replicate 4 ([] : List Answer))[p] ++ (Vector.replicate 4 ([] : List Answer))[p])
      = Vector.replicate 4 [] := by
    ext i hi
    simp
  rw [transferOutputs_eq]
  simp only [within, closingOf, begin_outputs, Outputs.silent, ha, id]
  rfl

/-- A command on a ready link, where the block may send answers: it acts on the state whose outputs are those of the
transfer, and its response is then held (R147, R149). -/
theorem serve_acts {code tag : Byte} {s : State} {act : State → Reply} {reply : Reply} (h : Ready s)
    (hb : BlindReply act) (e : act { s with outputs := transferOutputs s.link } = reply) :
    serve code tag s act =
      { reply.after with link := closedLink (response reply.status tag code reply.result) } := by
  have hset : settle (begin s) = begin s := settle_of_settled (begin s) h.2
  rw [← e, ← within_closingOf, hb, serve_open code tag hb h.1, hset]
  generalize act (begin s) = r
  obtain ⟨hldo, hpresented⟩ := closeTransfer_within_opening s r.after 192 (response r.status tag code r.result)
  have houtputs : (closeTransfer (within (opening s) r.after) 192 (response r.status tag code r.result)).outputs
      = (within (closingOf s) r.after).outputs := by
    refine Eq.trans ?_ (congrArg₂ (fun a b => (⟨(within (closingOf s) r.after).outputs.answers,
      (within (closingOf s) r.after).outputs.forwarded, a, b⟩ : Outputs)) hpresented hldo)
    rfl
  refine Eq.trans ?_ (congrArg (fun o => ({ within (closingOf s) r.after with
    link := closedLink (response r.status tag code r.result), outputs := o } : State)) houtputs)
  rfl

/-- Port `p` has the queue `q` and answers its front: what the claims call `answered`. -/
theorem answerFront_setQueue (s : State) (p : Port) (q : List Record) :
    answerFront (setQueue s p q) p = answered s p q := by
  rw [answerFront_eq]
  simp only [answered, setQueue, setPort, Fin.getElem_fin, Vector.getElem_set_self, Vector.set_set]

/-- A QUIESCE that is not refused (R53 to R55, R82). -/
theorem quiescePort_accepted {s : State} {p : Port} (h : s.ports[p].state = .active ∨ s.ports[p].state = .fenced)
    (flush : Bool) :
    let q := if flush then
        s.ports[p].queue.map fun r => if r.state = .waiting then { r with state := .done .flushed } else r
      else s.ports[p].queue
    let t := offering (answered
      { s with
        ports := s.ports.set p { s.ports[p] with state := .quiescing }
        offer := if flush then s.offer.filter (·.port != p) else s.offer } p q)
    quiescePort p flush s = ⟨t, .accepted, [portStateCode t.ports[p].state, byteOf t.ports[p].queue.length]⟩ := by
  intro q t
  have ht : makeOffer (answerFront
      (if flush then flushPort p (setPortState s p .quiescing) else setPortState s p .quiescing) p) = t := by
    rw [makeOffer_eq]
    refine congrArg offering ((congrArg (answerFront · p) ?_).trans (answerFront_setQueue _ p q))
    cases flush with
    | false =>
      simp [q, setQueue, setPortState, setPort]
    | true =>
      rw [if_pos rfl, flushPort_eq]
      simp [q, setQueue, setPortState, setPort, funext (settleWaiting_eq .flushed)]
  rw [← ht]
  unfold quiescePort
  rcases h with h | h <;> rw [h]

theorem exec_quiesce {s : State} {tag port flush : Byte} {reply : Reply} (h : Ready s)
    (e : (checked (port? port) { s with outputs := transferOutputs s.link } fun p =>
      checked (flag? flush) { s with outputs := transferOutputs s.link } fun f =>
        quiescePort p f { s with outputs := transferOutputs s.link }) = reply) :
    exec (.quiesce tag port flush) s = .next
      { reply.after with link := closedLink (response reply.status tag 0x50 reply.result) } :=
  congrArg Host.Outcome.next (serve_acts h
    (fun w s => placed_checked w fun p => placed_checked w fun f => placed_quiescePort w s p f) e)

/-- Settles O28: the port's state is judged, the flush settles what waits, and the port answers. -/
theorem quiesceDrainsThePort : Obligations.QuiesceDrainsThePort := by
  unfold Obligations.QuiesceDrainsThePort
  refine fun s tag p flush h => ⟨fun hs => ?_, fun hs => ?_, fun port flag hbad => ?_⟩
  · refine exec_quiesce (reply := refuse { s with outputs := transferOutputs s.link } .busy) h ?_
    rw [port?_byteOf, flag?_flagByte, checked_some, checked_some]
    unfold quiescePort
    rcases hs with hs | hs <;> simp only [hs]
  · intro q asked t
    refine exec_quiesce
      (reply := ⟨t, .accepted, [portStateCode t.ports[p].state, byteOf t.ports[p].queue.length]⟩) h ?_
    rw [port?_byteOf, flag?_flagByte, checked_some, checked_some]
    exact quiescePort_accepted (s := { s with outputs := transferOutputs s.link }) hs flush
  · refine exec_quiesce (reply := refuse { s with outputs := transferOutputs s.link } .badvalue) h ?_
    rcases hbad with hp | hf
    · rw [port?, index?_none hp]
      rfl
    · rw [flag?_none hf]
      cases port? port <;> rfl

/-! ### RESET# -/

/-- While RESET# is asserted every row but the edges leaves the state as it is, with nothing driven (R63, R154). -/
theorem exec_inReset {s : State} (h : s.inReset = true) {c : Instr} (hc : rowKind c ≠ .edge) :
    exec c s = .next (begin s) := by
  have hclosed : linkOpen s = false := by simp [linkOpen, h]
  have hbus : ∀ act, onBus s act = begin s := fun act => onBus_inReset s act h
  have hdue : ∀ due act, whenDue s due act = begin s := fun due act => by simp [whenDue, h]
  have hlink : ∀ n r, onLink s n r = begin s := fun n r => onLink_closed s n r hclosed
  have hserve : ∀ code tag act, serve code tag s act = begin s := fun code tag act => serve_closed code tag s act hclosed
  cases c with
  | resetAssert | resetRelease | transferStart | lselRiseWithoutTransfer => exact absurd rfl hc
  | tick | slotExpiry | frameBoundary | arrival | arrivalWithdraw | take | completion => exact congrArg _ (hbus _)
  | heldArrivalTake | entryTimeout | drainComplete => exact congrArg _ (hdue _ _)
  | shortTransfer | badcrcPacket | unknownCommand | nop => exact congrArg _ (hlink _ _)
  | _ => exact congrArg _ (hserve _ _ _)

/-- Settles O3: the edges of RESET# and of LSEL# by the level of LSEL#, and every other row. -/
theorem resetHoldsEverythingUntilItsRelease : Obligations.ResetHoldsEverythingUntilItsRelease := by
  unfold Obligations.ResetHoldsEverythingUntilItsRelease
  intro s high
  refine ⟨fun hr => congrArg _ (if_neg (by simp [hr])), fun hr => ⟨fun hl => ⟨?_, ?_⟩, fun hl => ⟨?_, ?_⟩,
    fun hs => ?_, fun c h1 h2 h3 h4 => exec_inReset hr ?_⟩⟩
  · refine congrArg Host.Outcome.next ((if_pos hr).trans ?_)
    rw [hl, outsideTransfer_high]
    rfl
  · refine ⟨Config.ldoOutsideTransfer s.choices, congrArg Host.Outcome.next ?_⟩
    exact (if_neg (by simp [hl])).trans ((if_pos hr).trans rfl)
  · refine ⟨Config.ldoOutsideTransfer s.choices, congrArg Host.Outcome.next ((if_pos hr).trans ?_)⟩
    have hlink : { s.link with lselLow := true } = s.link := by rw [← hl]
    rw [hl]
    exact congrArg (fun l : Link => ({ s with
      inReset := false
      link := { l with ldo := Config.ldoOutsideTransfer s.choices }
      choices := s.choices + 1
      outputs := quietOutputs } : State)) hlink
  · exact congrArg Host.Outcome.next (if_pos hl)
  · refine congrArg Host.Outcome.next ((if_neg (by simp [hs])).trans ?_)
    rfl
  · intro hc
    cases c with
    | resetAssert => exact h1 rfl
    | resetRelease => exact h2 rfl
    | transferStart => exact h3 rfl
    | lselRiseWithoutTransfer => exact h4 rfl
    | _ => cases hc

end Sys2Proof.Machine
end

section
/-! SUPPORT. Arrivals, completions and timeouts: what the port appends or settles, what it answers, and what the
selector then offers. -/

namespace Sys2Proof.Machine

/-! ### Arrivals held off (R44, R45) -/

theorem malformed_iff (t : Txn) : malformed t = true ↔ ¬ StaysInBlock t := by
  simp only [malformed, StaysInBlock, Bool.or_eq_true, bne_iff_ne, decide_eq_true_eq]
  omega

theorem holdsOff_iff (m : Mode) (u : PortUnit) :
    holdsOff m u = true ↔ u.state = .quiescing ∨ u.state = .quiesced ∨ 8 ≤ u.queue.length ∨ m = .engaging := by
  simp only [holdsOff, Bool.or_eq_true, beq_iff_eq, decide_eq_true_eq, or_assoc]
  rfl

/-- An ACTIVE or FENCED port with room takes an arrival outside ENGAGING (R45). -/
theorem holdsOff_of_room {m : Mode} {u : PortUnit} (hs : u.state = .active ∨ u.state = .fenced)
    (hq : u.queue.length < 8) (hm : m ≠ .engaging) : holdsOff m u = false := by
  rw [Bool.eq_false_iff, ne_eq, holdsOff_iff]
  rintro (h | h | h | h)
  · rcases hs with hs | hs <;> rw [hs] at h <;> cases h
  · rcases hs with hs | hs <;> rw [hs] at h <;> cases h
  · exact Nat.not_lt.mpr h hq
  · exact hm h

section Arrival

variable {s : State} {p : Port} {t : Txn}

theorem exec_arrival (h : Awake s) : exec (.arrival p t) s = .next (present p t (begin s)) :=
  congrArg Host.Outcome.next (onBus_awake s (present p t) h)

theorem exec_arrival_held (h : Awake s) (ha : s.ports[p].arrival = none) (hoff : holdsOff s.mode s.ports[p] = true) :
    exec (.arrival p t) s = .next (setArrival (begin s) p (some t)) := by
  rw [exec_arrival h]
  exact congrArg Host.Outcome.next ((if_neg (by rw [begin_ports, ha]; exact nofun)).trans (if_pos hoff))

theorem exec_arrival_taken (h : Awake s) (ha : s.ports[p].arrival = none)
    (hoff : holdsOff s.mode s.ports[p] = false) : exec (.arrival p t) s = .next (accept (begin s) p t) := by
  rw [exec_arrival h]
  exact congrArg Host.Outcome.next ((if_neg (by rw [begin_ports, ha]; exact nofun)).trans (if_neg (Bool.eq_false_iff.mp hoff)))

end Arrival

/-- Settles O39: the four ways of holding off, and the withdrawal. -/
theorem arrivalsAreHeldOffAndWithdrawn : Obligations.ArrivalsAreHeldOffAndWithdrawn := by
  unfold Obligations.ArrivalsAreHeldOffAndWithdrawn
  refine fun s p t h => ⟨fun ha hoff => ?_, ?_⟩
  · exact exec_arrival_held h ha ((holdsOff_iff ..).mpr hoff)
  · exact congrArg Host.Outcome.next (onBus_awake s (fun s => setArrival s p none) h)

/-- Settles O44: the release of a held arrival is the acceptance of the transaction, with the port's arrival gone. -/
theorem heldArrivalIsJudgedAfresh : Obligations.HeldArrivalIsJudgedAfresh := by
  unfold Obligations.HeldArrivalIsJudgedAfresh
  intro s p t ht hd released hr
  have hoff : holdsOff s.mode s.ports[p] = false := by
    simp only [heldDue, Bool.and_eq_true, Bool.not_eq_true'] at hd
    exact hd.2
  have hport : released.ports[p] = { s.ports[p] with arrival := none } := Vector.getElem_set_self ..
  have htake : takeHeld (begin s) p = accept (begin released) p t := by
    unfold takeHeld
    rw [begin_ports, ht]
    exact if_neg (Bool.eq_false_iff.mp hoff)
  refine ⟨accept (begin released) p t, ?_, ?_⟩
  · exact congrArg Host.Outcome.next ((whenDue_due s _ _ hr.1 hd).trans htake)
  · refine exec_arrival_taken hr (by rw [hport]) ?_
    rw [hport]
    exact hoff

/-! ### Arrivals taken (R45 to R47) -/

/-- The port holds a queue whose front is not answerable: nothing is answered. -/
theorem answerFront_waiting {s : State} {p : Port} {u : PortUnit} (hu : PortPrompt u) :
    answerFront (setPort s p u) p = setPort s p u := by
  have hget : (setPort s p u).ports[p] = u := Vector.getElem_set_self ..
  refine answerFront_idle _ p ?_ ?_ <;> rw [hget]
  · exact hu.1
  · exact fun h => hu.2 h.1 h.2

/-- A new record behind a front that is not answerable leaves only if it stands at the front itself (R50). -/
theorem answerable_run_append {q : List Record} {r : Record} (hq : ∀ x, q.head? = some x → answerable x = false)
    (hr : answerable r = true) :
    (q ++ [r]).dropWhile answerable = (if q = [] then [] else q ++ [r])
      ∧ (q ++ [r]).takeWhile answerable = if q = [] then [r] else [] := by
  cases q with
  | nil => simp [hr]
  | cons x q =>
    have hx := hq x rfl
    simp [hx]

/-- A refused record is answered at once if it stands at the front (R46, R50). -/
theorem answerFront_refused {s : State} {p : Port} {u : PortUnit} {q : List Record} {r : Record}
    (hu : u.queue = q ++ [r]) (hs : u.state ≠ .quiescing) (hq : ∀ x, q.head? = some x → answerable x = false)
    (hr : answerable r = true) :
    answerFront (setPort s p u) p = { s with
      ports := s.ports.set p { u with queue := if q = [] then [] else q ++ [r] }
      outputs := { s.outputs with
        answers := s.outputs.answers.set p
          (s.outputs.answers[p] ++ if q = [] then [answerOf r] else []) } } := by
  have hget : (s.ports.set p u)[p] = u := Vector.getElem_set_self ..
  obtain ⟨hkept, hgone⟩ := answerable_run_append hq hr
  have hanswers : (if q = [] then [r] else []).map answerOf = if q = [] then [answerOf r] else [] := by
    split_ifs <;> rfl
  have hends : ¬ (u.state = .quiescing ∧ (if q = [] then [] else q ++ [r]) = []) := fun h => hs h.1
  rw [answerFront_eq]
  simp only [answered, hget, hu, hkept, hgone, hanswers, if_neg hends, setPort_ports, setPort_events,
    setPort_outputs, Vector.set_set]
  rfl

theorem front_append {q : List Record} {r : Record} (hq : ∀ x, q.head? = some x → answerable x = false)
    (hr : answerable r = false) (x : Record) (hx : (q ++ [r]).head? = some x) : answerable x = false := by
  cases q with
  | nil =>
    cases hx
    exact hr
  | cons y q => exact hq x hx

/-- Settles O40: step 6 appends a record that waits, behind a front that is not answerable. -/
theorem arrivalInPassWaitsUnclassified : Obligations.ArrivalInPassWaitsUnclassified := by
  unfold Obligations.ArrivalInPassWaitsUnclassified
  intro s p t h hf ha hm hs hq ht
  have hsteps : acceptSteps (begin s) p t = appendRecord (begin s) p t .waiting none none := by
    have hwell : ¬ malformed t = true := fun hbad => (malformed_iff t).mp hbad ht
    unfold acceptSteps
    rw [if_neg (by simp [hm]), if_neg (by rw [begin_ports, hs]; exact nofun), if_neg hwell, if_neg (by simp [hm])]
  have hprompt : PortPrompt { s.ports[p] with queue := s.ports[p].queue ++ [newRecord s t .waiting none none] } := by
    refine ⟨front_append (hf p) rfl, fun hqs => ?_⟩
    rw [show s.ports[p].state = .quiescing from hqs] at hs
    cases hs
  rw [exec_arrival_taken h ha (holdsOff_of_room (.inl hs) hq (by rw [hm]; exact nofun)), accept, hsteps, makeOffer_eq]
  exact congrArg (fun u => Host.Outcome.next (offering u))
    (answerFront_waiting (s := { begin s with serial := s.serial + 1 }) hprompt)

/-- The outputs of a command that sends one port's answers. -/
theorem silent_answers_set (p : Port) (l : List Answer) :
    Outputs.silent.answers.set p (Outputs.silent.answers[p] ++ l) = (Vector.replicate 4 []).set p l := by
  simp [Outputs.silent]

/-- Settles O42: the refusal's record is appended and counted, and is answered if it stands at the front. -/
theorem refusalWithoutStrikeIsOnlyCounted : Obligations.RefusalWithoutStrikeIsOnlyCounted := by
  unfold Obligations.RefusalWithoutStrikeIsOnlyCounted
  intro s p t st h hf ha hs hq hcase
  have hm : s.mode ≠ .engaging := by
    rcases hcase with ⟨hm, -⟩ | ⟨hm | hm, -⟩ | ⟨hm, -⟩ <;> rw [hm] <;> exact nofun
  have hsteps : acceptSteps (begin s) p t = appendRefused (begin s) p t st none := by
    unfold acceptSteps
    rcases hcase with ⟨hm, rfl⟩ | ⟨hm, hp, rfl⟩ | ⟨hm, hp, hbad, rfl⟩
    · exact if_pos hm
    · rw [if_neg (by rcases hm with hm | hm <;> simp [hm])]
      exact if_pos hp
    · rw [if_neg (by simp [hm]), if_neg (by rw [begin_ports, hp]; exact nofun), if_pos ((malformed_iff t).mpr hbad),
        if_neg (by simp [hm])]
  have hanswer := answerFront_refused (p := p) (s := { begin s with
      portStats := s.portStats.set p { s.portStats[p] with refusals := s.portStats[p].refusals + 1 }
      serial := s.serial + 1 })
    (u := { s.ports[p] with queue := s.ports[p].queue ++ [newRecord s t (.refused st) none none] }) rfl
    (by dsimp only; rcases hs with hs | hs <;> rw [hs] <;> exact nofun) (hf p) rfl
  rw [exec_arrival_taken h ha (holdsOff_of_room hs hq hm), accept, hsteps, makeOffer_eq]
  refine congrArg (fun u => Host.Outcome.next (offering u)) (hanswer.trans ?_)
  simp only [begin_outputs, silent_answers_set]
  rfl

end Sys2Proof.Machine
end

section
/-! SUPPORT. A refusal in ENGAGED with its strike, and the settlement of an entry's record by a completion or a
timeout. -/

namespace Sys2Proof.Machine

/-! ### The window search (R65, R67) -/

theorem windowOrder_split (i : WindowIx) :
    windowOrder = windowOrder.take i.val ++ i :: windowOrder.drop (i.val + 1)
      ∧ ∀ j ∈ windowOrder.take i.val, j.val < i.val := by
  revert i
  decide

/-- Window `i` covers the transaction's block (R65). -/
def Covering (ws : Vector Window 8) (t : Txn) (i : WindowIx) : Prop :=
  ws[i].valid = true ∧ ws[i].base ≤ t.address.toNat / 1024 ∧ t.address.toNat / 1024 ≤ ws[i].limit

theorem covers_iff (ws : Vector Window 8) (t : Txn) (i : WindowIx) :
    covers ws[i] (blockOf t) = true ↔ Covering ws t i := by
  simp only [covers, Bool.and_eq_true, decide_eq_true_eq, and_assoc]
  rfl

theorem classify_miss {ws : Vector Window 8} {t : Txn} (h : ∀ i, ¬ Covering ws t i) : classify ws t = .miss := by
  have hf : (windowOrder.find? fun i => covers ws[i] (blockOf t)) = none :=
    List.find?_eq_none.mpr fun i _ hi => h i ((covers_iff ws t i).mp hi)
  rw [classify, hf]

/-- The first covering window does not permit the transaction's kind (R67). -/
theorem classify_denied {ws : Vector Window 8} {t : Txn} {i : WindowIx} (hi : Covering ws t i)
    (hfirst : ∀ j : WindowIx, j.val < i.val → ¬ Covering ws t j) (hk : permits ws[i] t.kind = false) :
    classify ws t = .denied i := by
  obtain ⟨hsplit, hbefore⟩ := windowOrder_split i
  have hf : (windowOrder.find? fun i => covers ws[i] (blockOf t)) = some i :=
    List.find?_eq_some_iff_append.mpr ⟨(covers_iff ws t i).mpr hi, _, _, hsplit, fun j hj => by
      rw [Bool.not_eq_true', Bool.eq_false_iff]
      exact fun hc => hfirst j (hbefore j hj) ((covers_iff ws t j).mp hc)⟩
  rw [classify, hf]
  simp only [hk]
  rfl

theorem permits_false {w : Window} {k : Kind} (h : (w.access = .read ∧ k = .write) ∨ (w.access = .write ∧ k = .read)) :
    permits w k = false := by
  rcases h with ⟨ha, rfl⟩ | ⟨ha, rfl⟩ <;> simp [permits, ha]

/-! ### The refusal (R46, R59, R61) -/

/-- Steps 5 and 7 of the acceptance rule for a transaction that is refused in ENGAGED (R45). -/
theorem acceptSteps_refused {s : State} {p : Port} {t : Txn} {st : Status} {window : Option WindowIx}
    {kind : EventKind} (hm : s.mode = .engaged) (hs : s.ports[p].state = .active)
    (h : (¬ StaysInBlock t ∧ st = .malformed ∧ window = none ∧ kind = .malformed)
      ∨ (StaysInBlock t ∧ (∀ i, ¬ Covering s.windows[p] t i) ∧ st = .window ∧ window = none ∧ kind = .windowMiss)
      ∨ (StaysInBlock t ∧ (∃ i, window = some i ∧ Covering s.windows[p] t i
            ∧ (∀ j : WindowIx, j.val < i.val → ¬ Covering s.windows[p] t j)
            ∧ (((s.windows[p])[i].access = .read ∧ t.kind = .write)
              ∨ ((s.windows[p])[i].access = .write ∧ t.kind = .read)))
          ∧ st = .access ∧ kind = .accessDenied)) :
    acceptSteps s p t = refuseWithStrike s p t st window
      (refusalReport kind p t (window.map fun i => byteOf i.val)) := by
  have hmode : ¬ s.mode = .halted := by rw [hm]; exact nofun
  have hstate : ¬ s.ports[p].state = .fenced := by rw [hs]; exact nofun
  unfold acceptSteps
  rw [if_neg hmode, if_neg hstate]
  have hwell : StaysInBlock t → ¬ malformed t = true := fun ht hbad => (malformed_iff t).mp hbad ht
  rcases h with ⟨hbad, rfl, rfl, rfl⟩ | ⟨ht, hnone, rfl, rfl, rfl⟩ | ⟨ht, ⟨i, rfl, hi, hfirst, hk⟩, rfl, rfl⟩
  · rw [if_pos ((malformed_iff t).mpr hbad), if_pos hm]
    rfl
  · rw [if_neg (hwell ht), if_pos hm, decideByWindows, classify_miss hnone]
    rfl
  · rw [if_neg (hwell ht), if_pos hm, decideByWindows, classify_denied hi hfirst (permits_false hk)]
    rfl

/-- A refusal with a strike at an ACTIVE port: the limit alone decides whether the port is fenced (R61). -/
theorem refuseWithStrike_active {s : State} {p : Port} (hs : s.ports[p].state = .active) (t : Txn) (st : Status)
    (w : Option WindowIx) (r : Report) :
    refuseWithStrike s p t st w r =
      let k := min (s.ports[p].strikes + 1) 15
      let fenced := s.fenceLimit ≠ 0 ∧ s.fenceLimit ≤ k
      let refused := storeIn s.events (positionOf s.calendar) r
      setPort
        { s with
          portStats := s.portStats.set p { s.portStats[p] with refusals := s.portStats[p].refusals + 1 }
          events := if fenced then
              storeIn refused (positionOf s.calendar)
                { kind := .portFenced, port := some p, detail := some (byteOf k) }
            else refused
          serial := s.serial + 1 }
        p { s.ports[p] with
          queue := s.ports[p].queue ++ [newRecord s t (.refused st) none w]
          strikes := k
          state := if fenced then .fenced else .active } := by
  rw [refuseWithStrike_eq]
  dsimp only
  by_cases hf : s.fenceLimit ≠ 0 ∧ s.fenceLimit ≤ min (s.ports[p].strikes + 1) 15
  · rw [if_pos hf, if_pos hf, if_pos ⟨hf.1, hf.2, hs⟩, if_pos ⟨hf.1, hf.2, hs⟩]
    rfl
  · have hn : ¬ (s.fenceLimit ≠ 0 ∧ s.fenceLimit ≤ min (s.ports[p].strikes + 1) 15 ∧ s.ports[p].state = .active) :=
      fun h => hf ⟨h.1, h.2.1⟩
    rw [if_neg hf, if_neg hf, if_neg hn, if_neg hn, hs]
    rfl

/-- Settles O43: the refusal with its strike, and the answer if the record stands at the front. -/
theorem engagedRefusalStrikesAndFences : Obligations.EngagedRefusalStrikesAndFences := by
  unfold Obligations.EngagedRefusalStrikesAndFences
  intro s p t st window kind h hf ha hm hs hq covered hcase strikes fenced refused
  have hsteps := (acceptSteps_refused (s := begin s) hm hs hcase).trans
    (refuseWithStrike_active (s := begin s) hs t st window _)
  have hoff : holdsOff s.mode s.ports[p] = false := holdsOff_of_room (.inl hs) hq (by rw [hm]; exact nofun)
  rw [exec_arrival_taken h ha hoff, accept, hsteps, makeOffer_eq]
  refine congrArg (fun u => Host.Outcome.next (offering u)) ((answerFront_refused rfl ?_ (hf p) rfl).trans ?_)
  · dsimp only
    split_ifs <;> exact nofun
  · simp only [begin_outputs, silent_answers_set]
    rfl

/-! ### Completions (R100 to R103) -/

/-- A record that is completed GOOD (R101). -/
theorem completeRecord_good (data : List Beat) (x : Record) :
    completeRecord (.good data) x =
      { x with state := .done .ok, readData := if x.txn.kind = .read then some data else none } := by
  cases hk : x.txn.kind <;> simp [completeRecord, hk]

section Settlement

variable {s : State} {e : Entry} {rest : List Entry} {n : Nat} {r : Record}

/-- The record of an entry that serves one is changed in its place. -/
theorem settleRecord_some (hn : e.record = some n) (f : Record → Record) :
    settleRecord s e f =
      setQueue s e.port (s.ports[e.port].queue.map fun x => if x.serial = n then f x else x) := by
  rw [settleRecord, hn]
  rfl

theorem recordOf_some (hn : e.record = some n) (hr : s.ports[e.port].queue.find? (fun x => x.serial == n) = some r) :
    recordOf s e = some r := by
  rw [recordOf, hn]
  exact hr

/-- A completion of an entry that waits: the record settles, the completion is noted, and the port answers. -/
theorem complete_waiting (hl : s.memory.issue = e :: rest) (hw : e.state = .waiting) (hn : e.record = some n)
    (hr : s.ports[e.port].queue.find? (fun x => x.serial == n) = some r) (c : Completion) {u : State}
    (hu : ∀ q, noteCompletion c e.port (some r) (setQueue (setIssue s rest) e.port q) = setQueue u e.port q) :
    complete c s = offering (answered u e.port
      (s.ports[e.port].queue.map fun x => if x.serial = n then completeRecord c x else x)) := by
  unfold complete
  rw [hl]
  dsimp only
  unfold completeEntry
  rw [hw]
  dsimp only
  rw [recordOf_some hn hr, settleRecord_some hn, hu, answerFront_setQueue, makeOffer_eq]
  rfl

theorem exec_completion (h : Awake s) (c : Completion) : exec (.completion c) s = .next (complete c (begin s)) :=
  congrArg Host.Outcome.next (onBus_awake s (complete c) h)

/-- A spill of a record is a position of issue other than the calendar's (R102). -/
theorem any_isSpill (s : State) (r : Record) :
    (some r).any (isSpill s) = r.issuedAt.any fun at_ => at_ != ⟨s.calendar.frame, s.calendar.slot⟩ := by
  rw [Option.any_some, isSpill]
  cases r.issuedAt <;> rfl

end Settlement

/-- Counting nothing changes nothing. -/
theorem countPort_same (s : State) (p : Port) : countPort s p (fun x => x) = s := by
  simp only [countPort, Fin.getElem_fin, set_same]

/-- Settles O47: the completion is noted by the spill test or by its event, and the record settles. -/
theorem completionSettlesTheOldestEntry : Obligations.CompletionSettlesTheOldestEntry := by
  unfold Obligations.CompletionSettlesTheOldestEntry
  refine fun s e rest n r h hl hw hn hr => ⟨fun data => ⟨?_, ?_⟩, ?_⟩
  · have hnote : ∀ q, noteCompletion (.good data) e.port (some r) (setQueue (setIssue (begin s) rest) e.port q)
        = setQueue (countPort (setIssue (begin s) rest) e.port fun x => { x with
            spills := if r.issuedAt.any (fun at_ => at_ != ⟨s.calendar.frame, s.calendar.slot⟩) then x.spills + 1
              else x.spills }) e.port q := fun q => by
      rw [noteCompletion, any_isSpill]
      by_cases hspill : r.issuedAt.any (fun at_ => at_ != ⟨s.calendar.frame, s.calendar.slot⟩) = true
      · refine (if_pos hspill).trans ?_
        simp only [hspill, if_true]
        rfl
      · refine (if_neg hspill).trans ?_
        simp only [if_neg hspill]
        exact congrArg (fun u => setQueue u e.port q) (countPort_same _ _).symm
    rw [exec_completion h, complete_waiting (s := begin s) hl hw hn hr _ hnote]
    simp only [completeRecord_good]
    rfl
  · simp [Option.any_eq_true]
  · rw [exec_completion h, complete_waiting (s := begin s) hl hw hn hr .fault
      (u := report (setIssue (begin s) rest) (downstreamReport .downstreamFault e.port (some r))) fun q => rfl]
    rfl

/-! ### Timeouts (R104, R107) -/

/-- A timeout after which nothing more is done: the fault action is CONTINUE, or the mode is HALTED (R107). -/
theorem timeOut_carriesOn {s : State} {e : Entry} (he : s.memory.issue.find? timeoutDue = some e)
    (h : s.memory.faultAction = .carryOn ∨ s.mode = .halted) :
    timeOut s = offering (answerFront (afterTimeout s e) e.port) := by
  have hn : ¬ (s.memory.faultAction = .halt ∧ s.mode ≠ .halted) := by
    rintro ⟨ha, hm⟩
    rcases h with h | h
    · rw [h] at ha
      cases ha
    · exact hm h
  unfold timeOut
  rw [he]
  exact (if_neg hn).trans (makeOffer_eq _)

/-- Settles O49: the oldest entry at its limit is abandoned and its record settles. -/
theorem timeoutAbandonsTheEntry : Obligations.TimeoutAbandonsTheEntry := by
  unfold Obligations.TimeoutAbandonsTheEntry
  intro s e before after n r hreset hl hb hw hlimit hticks hn hr hact
  have hdue : timeoutDue e = true := (timeoutDue_iff e).mpr ⟨hw, hlimit, hticks⟩
  have hfind : s.memory.issue.find? timeoutDue = some e :=
    List.find?_eq_some_iff_append.mpr ⟨hdue, before, after, hl, fun x hx => by simp [hb x hx]⟩
  have hany : s.memory.issue.any timeoutDue = true := List.any_eq_true.mpr ⟨e, by simp [hl], hdue⟩
  have hlist : abandonFirst s.memory.issue
      = before ++ { e with state := .abandoned, record := none } :: after := hl ▸ abandonFirst_append hb hdue
  have hafter : afterTimeout (begin s) e = setQueue
      (report (setIssue (begin s) (before ++ { e with state := .abandoned, record := none } :: after))
        (downstreamReport .downstreamTimeout e.port (some r))) e.port
      (s.ports[e.port].queue.map fun x => if x.serial = n then timedOut x else x) := by
    rw [afterTimeout, recordOf_some (s := begin s) hn hr, settleRecord_some hn, begin_memory, hlist]
    rfl
  refine congrArg Host.Outcome.next ((whenDue_due s _ timeOut hreset hany).trans ?_)
  rw [timeOut_carriesOn (s := begin s) hfind hact, hafter, answerFront_setQueue]
  rfl

end Sys2Proof.Machine
end

section
/-! SUPPORT. While ENGAGED every record that waits or is issued carries an account, and an offer stands only in an open
slot: whatever comes about keeps it, and coherence says which record a take issues. -/

namespace Sys2Proof.Machine

/-! ### Records and slots -/

/-- The record waits, or is issued and not yet settled (R48). -/
def Live (r : Record) : Prop := r.state = .waiting ∨ r.state = .issued

/-- Every live record of the queue carries an account (R70). -/
def Classified (q : List Record) : Prop := ∀ r ∈ q, Live r → r.account.isSome = true

/-- The slot that runs is neither closing nor QUIET (R13, R86). -/
def OpenSlot (c : Calendar) : Prop := (currentSlot c).cutoff < c.ticks ∧ (currentSlot c).owner ≠ .quiet

theorem not_live_of_answerable {r : Record} (h : answerable r = true) : ¬ Live r := by
  obtain ⟨hw, hi⟩ := answerable_settled h
  rintro (hs | hs)
  · exact hw hs
  · exact hi hs

namespace Classified

variable {q : List Record}

theorem of_sublist {l : List Record} (h : Classified q) (hl : l.Sublist q) : Classified l :=
  fun r hr => h r (hl.subset hr)

/-- Changes in place after which no record is live that was not, and a live one has the account that it had. -/
theorem map {f : Record → Record} (h : Classified q)
    (hf : ∀ r ∈ q, Live (f r) → Live r ∧ (f r).account = r.account) : Classified (q.map f) := by
  intro x hx hlive
  obtain ⟨r, hr, rfl⟩ := List.mem_map.mp hx
  obtain ⟨hr', ha⟩ := hf r hr hlive
  exact ha ▸ h r hr hr'

/-- Some records are settled where they stand, and the others are as they were. -/
theorem map_settled {f : Record → Record} (h : Classified q) (hf : ∀ r, f r = r ∨ answerable (f r) = true) :
    Classified (q.map f) := by
  refine h.map fun r _ hlive => ?_
  rcases hf r with e | ha
  · rw [e] at hlive ⊢
    exact ⟨hlive, rfl⟩
  · exact absurd hlive (not_live_of_answerable ha)

theorem append {r : Record} (h : Classified q) (hr : Live r → r.account.isSome = true) : Classified (q ++ [r]) := by
  intro x hx
  rcases List.mem_append.mp hx with hx | hx
  · exact h x hx
  · exact List.mem_singleton.mp hx ▸ hr

end Classified

/-- The selector offers nothing in a slot that is closing or QUIET (R86). -/
theorem openSlot_of_choose {s : State} (hm : s.mode = .engaged) (h : (choose s).isSome = true) :
    OpenSlot s.calendar := by
  refine ⟨Nat.lt_of_not_le fun hc => ?_, fun hq => ?_⟩
  · rw [choose_closing hm hc] at h
    cases h
  · rw [choose_quiet hm hq] at h
    cases h

/-! ### The law, and what each operation makes of it -/

/-- While ENGAGED the traffic is classified, and offered in open slots alone. -/
structure EngagedTraffic (s : State) : Prop where
  classified : EngagedRecordsClassified s
  timed : OfferInOpenSlot s

theorem engagedTraffic_iff (s : State) : EngagedTraffic s ↔ (s.mode = .engaged →
    (∀ p : Port, Classified s.ports[p].queue) ∧ (s.offer.isSome = true → OpenSlot s.calendar)) :=
  ⟨fun h hm => ⟨h.classified hm, h.timed hm⟩, fun h => ⟨fun hm => (h hm).1, fun hm => (h hm).2⟩⟩

namespace EngagedTraffic

variable {s t : State}

theorem idle (hm : s.mode ≠ .engaged) : EngagedTraffic s :=
  (engagedTraffic_iff s).mpr fun h => absurd h hm

/-- What holds while ENGAGED is kept; the mode does not become ENGAGED, and no offer is made. -/
theorem kept (h : EngagedTraffic s) (hm : t.mode = .engaged → s.mode = .engaged)
    (hq : ∀ p : Port, Classified s.ports[p].queue → Classified t.ports[p].queue)
    (ho : t.offer.isSome = true → s.offer.isSome = true)
    (hc : s.mode = .engaged → t.offer.isSome = true → OpenSlot s.calendar → OpenSlot t.calendar) :
    EngagedTraffic t := by
  refine (engagedTraffic_iff t).mpr fun ht => ?_
  obtain ⟨hqueues, hslot⟩ := (engagedTraffic_iff s).mp h (hm ht)
  exact ⟨fun p => hq p (hqueues p), fun hto => hc (hm ht) hto (hslot (ho hto))⟩

/-- The same, where the mode and the calendar are as they were. -/
theorem requeued (h : EngagedTraffic s) (hr : regime t = regime s) (ho : t.offer = s.offer)
    (hq : ∀ p : Port, Classified s.ports[p].queue → Classified t.ports[p].queue) : EngagedTraffic t := by
  obtain ⟨hm, -, hc⟩ := regime_eq_iff.mp hr
  exact h.kept (hm ▸ id) hq (ho ▸ id) fun _ _ => hc ▸ id

/-- The same, where the ports are as they were too. -/
theorem congr (h : EngagedTraffic s) (hm : t.mode = s.mode) (hc : t.calendar = s.calendar) (hp : t.ports = s.ports)
    (ho : t.offer = s.offer ∨ t.offer = none) : EngagedTraffic t := by
  refine h.kept (hm ▸ id) (fun _ => hp ▸ id) (fun hto => ?_) fun _ _ => hc ▸ id
  rcases ho with ho | ho
  · exact ho ▸ hto
  · rw [ho] at hto
    cases hto

/-- The selector chooses for the slot that runs (R79, R86). -/
theorem after_offering (h : EngagedTraffic s) : EngagedTraffic (offering s) := by
  refine (engagedTraffic_iff _).mpr fun hm => ?_
  obtain ⟨hqueues, hslot⟩ := (engagedTraffic_iff s).mp h hm
  refine ⟨hqueues, fun ho => ?_⟩
  change (if s.offer = none ∧ s.memory.issue.length < s.memory.depth then choose s else s.offer).isSome = true at ho
  split_ifs at ho
  · exact openSlot_of_choose hm ho
  · exact hslot ho

theorem after_makeOffer (h : EngagedTraffic s) : EngagedTraffic (makeOffer s) := makeOffer_eq s ▸ h.after_offering

theorem reported (h : EngagedTraffic s) (r : Report) : EngagedTraffic (report s r) := h.congr rfl rfl rfl (.inl rfl)

theorem after_setPort (h : EngagedTraffic s) (p : Port) {u : PortUnit}
    (hu : Classified s.ports[p].queue → Classified u.queue) : EngagedTraffic (setPort s p u) := by
  refine h.requeued rfl rfl fun q hq => ?_
  rw [setPort_ports, Fin.getElem_fin, set_get]
  split_ifs with hpq
  · subst hpq
    exact hu hq
  · exact hq

theorem after_setArrival (h : EngagedTraffic s) (p : Port) (x : Option Txn) : EngagedTraffic (setArrival s p x) :=
  h.after_setPort p (u := { s.ports[p] with arrival := x }) id

theorem after_setPortState (h : EngagedTraffic s) (p : Port) (st : PortState) : EngagedTraffic (setPortState s p st) :=
  h.after_setPort p (u := { s.ports[p] with state := st }) id

theorem after_answerFront (h : EngagedTraffic s) (p : Port) : EngagedTraffic (answerFront s p) := by
  refine h.requeued (regime_answerFront s p) (by rw [answerFront_eq]; rfl) fun q hq => ?_
  rw [answerFront_port]
  split_ifs with hpq
  · subst hpq
    exact hq.of_sublist (List.dropWhile_sublist _)
  · exact hq

/-! ### Acceptance (R45, R46, R67, R70) -/

/-- While ENGAGED a record is appended with an account, or already refused. -/
theorem after_appendRecord (h : EngagedTraffic s) (p : Port) (t : Txn) {st : RecordState} {a : Option AccountIx}
    (w : Option WindowIx) (ha : s.mode = .engaged → a.isSome = true ∨ ∃ x, st = .refused x) :
    EngagedTraffic (appendRecord s p t st a w) := by
  by_cases hm : s.mode = .engaged
  · refine EngagedTraffic.congr (s := setQueue s p (s.ports[p].queue ++ [newRecord s t st a w]))
      (h.after_setPort p fun hq => hq.append fun hlive => ?_) rfl rfl rfl (.inl rfl)
    rcases ha hm with ha | ⟨x, rfl⟩
    · exact ha
    · exact absurd hlive (not_live_of_answerable rfl)
  · exact idle hm

theorem after_appendRefused (h : EngagedTraffic s) (p : Port) (t : Txn) (st : Status) (w : Option WindowIx) :
    EngagedTraffic (appendRefused s p t st w) :=
  (h.after_appendRecord p t w fun _ => .inr ⟨st, rfl⟩).congr rfl rfl rfl (.inl rfl)

/-- A strike leaves the queues (R59, R61). -/
theorem after_strike (h : EngagedTraffic s) (p : Port) : EngagedTraffic (strike s p) := by
  rw [strike_eq]
  refine EngagedTraffic.congr (h.after_setPort p ?_) rfl rfl rfl (.inl rfl)
  exact id

theorem after_refuseWithStrike (h : EngagedTraffic s) (p : Port) (t : Txn) (st : Status) (w : Option WindowIx)
    (r : Report) : EngagedTraffic (refuseWithStrike s p t st w r) :=
  ((h.after_appendRefused p t st w).reported r).after_strike p

/-- Outside ENGAGED the law asks nothing, and in ENGAGED the window table gives the account (R67, R70). -/
theorem after_acceptSteps (h : EngagedTraffic s) (p : Port) (t : Txn) : EngagedTraffic (acceptSteps s p t) := by
  have hwindows : EngagedTraffic (decideByWindows s p t) := by
    unfold decideByWindows
    split
    · exact h.after_refuseWithStrike ..
    · exact h.after_refuseWithStrike ..
    · exact h.after_appendRecord p t _ fun _ => .inl rfl
  unfold acceptSteps
  split_ifs with _ _ _ _ hm
  · exact h.after_appendRefused ..
  · exact h.after_appendRefused ..
  · exact h.after_refuseWithStrike ..
  · exact h.after_appendRefused ..
  · exact hwindows
  · exact h.after_appendRecord p t none fun he => absurd he hm

theorem after_accept (h : EngagedTraffic s) (p : Port) (t : Txn) : EngagedTraffic (accept s p t) :=
  ((h.after_acceptSteps p t).after_answerFront p).after_makeOffer

theorem after_takeHeld (h : EngagedTraffic s) (p : Port) : EngagedTraffic (takeHeld s p) := by
  unfold takeHeld
  split
  · exact h
  · split_ifs
    · exact h
    · exact (h.after_setArrival p none).after_accept p _

theorem after_present (h : EngagedTraffic s) (p : Port) (t : Txn) : EngagedTraffic (present p t s) := by
  unfold present
  split_ifs
  · exact h
  · exact h.after_setArrival p (some t)
  · exact h.after_accept p t

/-! ### Settling (R54, R101, R104, R123) -/

theorem after_settleRecord (h : EngagedTraffic s) (e : Entry) {f : Record → Record}
    (hf : ∀ r, answerable (f r) = true) : EngagedTraffic (settleRecord s e f) := by
  unfold settleRecord
  split
  · exact h
  · refine h.after_setPort e.port fun hq => hq.map_settled fun r => ?_
    split_ifs
    · exact .inr (hf r)
    · exact .inl rfl

theorem after_enterHalted (s : State) : EngagedTraffic (enterHalted s) :=
  idle (by rw [(haltedFrom_enterHalted s).mode]; exact nofun)

theorem after_timeOut (h : EngagedTraffic s) : EngagedTraffic (timeOut s) := by
  have hissue : ∀ l, EngagedTraffic (setIssue s l) := fun _ => h.congr rfl rfl rfl (.inl rfl)
  rcases timeOut_cases s with e | ⟨x, -, e | e⟩ <;> rw [e]
  · exact h
  · exact after_enterHalted _
  · exact ((((hissue _).after_settleRecord x fun _ => rfl).reported _).after_answerFront _).after_makeOffer

theorem after_complete (h : EngagedTraffic s) (c : Completion) : EngagedTraffic (complete c s) := by
  unfold complete
  split
  · exact h.reported _
  · next e rest _ =>
    have hissue : EngagedTraffic (setIssue s rest) := h.congr rfl rfl rfl (.inl rfl)
    unfold completeEntry
    split
    · exact (hissue.reported _).after_makeOffer
    · have hset := hissue.after_settleRecord e (f := completeRecord c) fun r => by cases c <;> rfl
      refine (EngagedTraffic.after_answerFront ?_ _).after_makeOffer
      unfold noteCompletion
      split
      · split_ifs
        · exact hset.congr rfl rfl rfl (.inl rfl)
        · exact hset
      · exact hset.reported _

/-! ### The end of the drain, and the tick -/

/-- A drained regulator holds no record, so that none is offered (R118). -/
theorem after_enterEngaged (hc : Coherent s) (hd : drained s = true) : EngagedTraffic (enterEngaged s) := by
  obtain ⟨hempty, -⟩ := (drained_iff s).mp hd
  rw [enterEngaged_eq]
  refine EngagedTraffic.after_offering ((engagedTraffic_iff _).mpr fun _ => ⟨fun p => ?_, fun ho => ?_⟩)
  · have hq : (startedRun s).ports[p].queue = [] := by simpa [startedRun] using hempty p
    rw [hq]
    exact List.forall_mem_nil _
  · rw [show (startedRun s).offer = none from hc.offer_none_of_drained hd] at ho
    cases ho

theorem after_startEngaging (hc : Coherent s) (b : BankIx) (hm : s.mode = .pass) :
    EngagedTraffic (startEngaging b s) := by
  have hb : Coherent (setCalendar s { s.calendar with active := b }) := hc.of_offer rfl rfl rfl rfl
  simp only [startEngaging]
  split_ifs with hd
  · exact after_enterEngaged (hb.after_enterMode_idle (.inl hm) (.inr rfl)) hd
  · exact idle nofun

/-- The offer goes as the slot closes or ends, and the selector chooses for the slot that starts (R13, R14, R82). -/
theorem after_tickBoth (h : EngagedTraffic s) : EngagedTraffic (tickBoth s) := by
  have hcounted : EngagedTraffic (setIssue s (s.memory.issue.map countTick)) := h.congr rfl rfl rfl (.inl rfl)
  by_cases hm : s.mode = .engaged
  · rcases tickBoth_frame s with e | ⟨-, e⟩ | ⟨mode, pd, calendar, accounts, events, ports, hp, e⟩ <;> rw [e]
    · exact hcounted
    · split_ifs with hclosing
      · exact h.kept (fun _ => hm) (fun _ => id) nofun fun _ => nofun
      · exact h.kept (fun _ => hm) (fun _ => id) id fun _ _ ⟨_, howner⟩ => ⟨Nat.lt_of_not_le hclosing, howner⟩
    · refine EngagedTraffic.after_offering (h.kept (fun _ => hm) (fun p hq => ?_) nofun fun _ => nofun)
      rcases hp p with hp | hp <;> exact hp ▸ hq
  · rw [show tickBoth s = setIssue s (s.memory.issue.map countTick) from if_neg hm]
    exact hcounted

/-! ### The take (R81) -/

/-- The record that a take issues is the offer's candidate, which waited with its account. -/
theorem after_takeOffer (hc : Coherent s) (h : EngagedTraffic s) : EngagedTraffic (takeOffer s) := by
  rcases takeOffer_cases s with e | ⟨o, r, accounts, accountStats, events, ho, e⟩ <;> rw [e]
  · exact h
  obtain ⟨x, hx, hn, -⟩ := hc.offer o ho
  obtain ⟨hmem, hw⟩ := candidate_mem hx
  have hissued : EngagedTraffic (setPort s o.port { s.ports[o.port] with
      queue := s.ports[o.port].queue.map fun y => if y.serial = o.serial then issueRecord s o y else y }) := by
    refine h.after_setPort o.port fun hq => hq.map fun y hy hlive => ?_
    split_ifs at hlive ⊢ with hyo
    · obtain rfl := hc.records.serial_inj hy hmem (hyo.trans hn.symm)
      exact ⟨.inl hw, rfl⟩
    · exact ⟨hlive, rfl⟩
  exact EngagedTraffic.after_offering (hissued.congr rfl rfl rfl (.inr rfl))

/-! ### The service link -/

theorem after_rejudge (h : EngagedTraffic s) : EngagedTraffic (rejudge s) := by
  rw [rejudge_eq]
  exact EngagedTraffic.after_offering (h.kept id (fun _ => id) (Option.isSome_of_isSome_filter _ _) fun _ _ => id)

theorem after_flushPort (h : EngagedTraffic s) (p : Port) : EngagedTraffic (flushPort p s) := by
  have hq := h.after_setPort p (u := { s.ports[p] with queue := s.ports[p].queue.map (settleWaiting .flushed) })
    fun hq => hq.map_settled fun r => by
      rw [settleWaiting_eq]
      split_ifs
      · exact .inr rfl
      · exact .inl rfl
  rw [flushPort_eq]
  exact hq.kept id (fun _ => id) (Option.isSome_of_isSome_filter _ _) fun _ _ => id

/-- Whatever a command does to the blocks of a coherent regulator. -/
theorem after_deed {c : Instr} (hc : Coherent s) (h : EngagedTraffic s) (hd : Deed c s t) : EngagedTraffic t := by
  cases hd with
  | nothing => exact h
  | timeout => exact h.after_timeOut
  | drainEnd hd => exact after_enterEngaged hc (Bool.and_eq_true_iff.mp hd).2
  | takeHeld p => exact h.after_takeHeld p
  | tick => exact h.after_tickBoth
  | arrival => exact h.after_present ..
  | withdrawal p => exact h.after_setArrival p none
  | take => exact after_takeOffer hc h
  | completion => exact h.after_complete _
  | discard => exact EngagedTraffic.after_makeOffer (h.congr rfl rfl rfl (.inl rfl))
  | calendar hk =>
    refine h.kept id (fun _ => id) id fun hm _ hopen => ?_
    obtain ⟨hslot, hticks⟩ := hk hm
    rwa [OpenSlot, setCalendar_calendar, hslot, hticks]
  | account a x => exact EngagedTraffic.after_rejudge (h.congr rfl rfl rfl (.inl rfl))
  | engage b hm => exact after_startEngaging hc b hm
  | pass k => exact EngagedTraffic.after_makeOffer (idle nofun)
  | halt => exact after_enterHalted s
  | quiesce p flush =>
    have hq := h.after_setPortState p .quiescing
    refine (EngagedTraffic.after_answerFront ?_ p).after_makeOffer
    split_ifs
    · exact hq.after_flushPort p
    · exact hq
  | resume p => exact h.after_setPort p (u := { s.ports[p] with state := .active, strikes := 0 }) id
  | override | window | depth | settings | fenceLimit | records => exact h.congr rfl rfl rfl (.inl rfl)

end EngagedTraffic

/-! ### Laws that every deed of a coherent regulator keeps -/

/-- `P` says something of the blocks alone, it holds after reset, and every deed keeps it where the blocks are
coherent. -/
structure CoherentDeedLaw (P : State → Prop) : Prop where
  congr : ∀ {s t : State}, P s → blocks t = blocks s → P t
  reset : P State.reset
  deed : ∀ {c : Instr} {s t : State}, Coherent s → P s → Deed c s t → P t

namespace CoherentDeedLaw

variable {P : State → Prop} (hP : CoherentDeedLaw P) {s t : State}

include hP

/-- What is due comes about by deeds, and each leaves the blocks coherent. -/
theorem settle (hc : Coherent s) (h : P s) : P (settle s) := by
  have htime : ∀ (n : Nat) (u : State), Coherent u → P u → P (timeOutAll n u) := fun n => by
    induction n with
    | zero => exact fun _ _ hu => hu
    | succ n ih => exact fun u hcu hu => ih _ hcu.after_timeOut (hP.deed hcu hu (.timeout (c := .tick) u))
  have hfold : ∀ (l : List Port) (u : State), Coherent u → P u → P (l.foldl Machine.takeHeld u) := fun l => by
    induction l with
    | nil => exact fun _ _ hu => hu
    | cons p l ih =>
      exact fun u hcu hu => ih _ (hcu.after_takeHeld p) (hP.deed hcu hu (.takeHeld (c := .tick) u p))
  have ht := htime s.memory.issue.length s hc h
  have hct := hc.after_timeOutAll s.memory.issue.length
  rw [settle_eq]
  split_ifs with hd
  · exact hfold allPorts _ (hct.after_enterEngaged (Bool.and_eq_true_iff.mp hd).2)
      (hP.deed hct ht (.drainEnd (c := .tick) hd))
  · exact hfold allPorts _ hct ht

theorem runs {c : Instr} (hc : Coherent s) (h : P s) (hr : Runs c s t) : P t := by
  obtain ⟨b, u, v, ⟨hb, -⟩, hu, hd, ht, -⟩ := hr
  have hcb : Coherent b := Coherent.law.congr hc hb
  have hpb : P b := hP.congr h hb
  rcases hu with rfl | rfl
  · exact hP.congr (hP.deed hcb hpb hd) ht
  · exact hP.congr (hP.deed hcb.after_settle (hP.settle hcb hpb) hd) ht

/-- Every step from a coherent state keeps the law, for coherence is kept with it. -/
theorem step (hc : Coherent s) (h : P s) (e : Machine.step s = .next t) : P t := by
  have hlaw : BlockLaw fun s => Coherent s ∧ P s :=
    ⟨fun ⟨hu, hpu⟩ e => ⟨Coherent.law.congr hu e, hP.congr hpu e⟩, fun ⟨hu, hpu⟩ => ⟨hu.after_settle, hP.settle hu hpu⟩⟩
  refine (hlaw.step (fun c u ⟨hu, hpu⟩ => ?_) ⟨hc, h⟩ e).2
  obtain ⟨v, hv, hcv⟩ := hu.after_exec c
  refine ⟨v, hv, hcv, ?_⟩
  by_cases hr : c = .resetAssert
  · subst hr
    cases hv
    exact hP.congr hP.reset rfl
  · obtain ⟨v', hv', hrun⟩ := exec_runs u hr
    cases hv.symm.trans hv'
    exact hP.runs hu hpu hrun

end CoherentDeedLaw

theorem EngagedTraffic.law : CoherentDeedLaw EngagedTraffic where
  congr {s t} h e := by
    have he : ∀ {α : Type} (φ : State → α), φ (blocks t) = φ (blocks s) := fun φ => congrArg φ e
    exact h.congr (he State.mode) (he State.calendar) (he State.ports) (.inl (he State.offer))
  reset := idle nofun
  deed hc h hd := after_deed hc h hd

/-- Settles O59: every deed keeps what holds of the traffic while ENGAGED, and a step runs one command or none. -/
theorem engagedTrafficIsClassifiedAndTimed : Obligations.EngagedTrafficIsClassifiedAndTimed := by
  unfold Obligations.EngagedTrafficIsClassifiedAndTimed
  intro s t hc hr ho e
  obtain ⟨hclassified, htimed⟩ := EngagedTraffic.law.step hc ⟨hr, ho⟩ e
  exact ⟨hclassified, htimed⟩

end Sys2Proof.Machine
end

section
/-! SUPPORT. The window table: the entries that WRITE_WINDOW carries, and the arrival that the first covering window
permits. -/

namespace Sys2Proof.Machine

/-! ### The entry of a window (Table 10-5) -/

theorem access?_accessCode (a : Access) : access? (accessCode a) = some a := by
  cases a <;> decide

theorem access?_none {b : Byte} (h : b.toNat = 0 ∨ 4 ≤ b.toNat) : access? b = none := by
  unfold access?
  rw [if_neg, if_neg, if_neg] <;> rintro rfl <;> simp at h

/-- A window in range is read back from its coding. -/
theorem window?_rawWindow {w : Window} (hb : w.base ≤ w.limit) (hl : w.limit ≤ 4194303) :
    window? (rawWindow w) = some w := by
  have hbase : (BitVec.ofNat 24 w.base).toNat = w.base := by
    rw [BitVec.toNat_ofNat]
    omega
  have hlimit : (BitVec.ofNat 24 w.limit).toNat = w.limit := by
    rw [BitVec.toNat_ofNat]
    omega
  simp only [window?, rawWindow, flag?_flagByte, access?_accessCode, account?_byteOf, hbase, hlimit, Config.lastBlock]
  exact if_neg (by omega)

/-- One field out of range, or a base above the limit, refuses the entry (R73). -/
theorem window?_none {raw : RawWindow}
    (h : 2 ≤ raw.valid.toNat ∨ raw.access.toNat = 0 ∨ 4 ≤ raw.access.toNat ∨ 8 ≤ raw.account.toNat
      ∨ 4194303 < raw.base.toNat ∨ 4194303 < raw.limit.toNat ∨ raw.limit.toNat < raw.base.toNat) :
    window? raw = none := by
  refine Option.eq_none_iff_forall_ne_some.mpr fun w hw => ?_
  simp only [window?, Option.bind_eq_bind, Option.bind_eq_some_iff] at hw
  obtain ⟨valid, hvalid, access, haccess, account, haccount, hw⟩ := hw
  split_ifs at hw with hrange
  simp only [Config.lastBlock, not_or, Nat.not_lt] at hrange
  rcases h with h | h | h | h | h
  · rw [flag?_none h] at hvalid
    cases hvalid
  · rw [access?_none (.inl h)] at haccess
    cases haccess
  · rw [access?_none (.inr h)] at haccess
    cases haccess
  · rw [account?, index?_none h] at haccount
    cases haccount
  · omega

/-! ### WRITE_WINDOW (R73) -/

theorem exec_writeWindow {s t : State} {tag port window : Byte} {raw : RawWindow} {st : LinkStatus} {res : List Byte}
    (h : Ready s)
    (e : (checked (port? port) (begin s) fun p => checked (windowIx? window) (begin s) fun i =>
      checked (window? raw) (begin s) fun w => ⟨setWindow (begin s) p i w, .done, windowResult w⟩)
        = ⟨begin t, st, res⟩) :
    exec (.writeWindow tag port window raw) s = .next (afterTransfer s.link t (response st tag 0x20 res)) :=
  congrArg Host.Outcome.next (serve_reply h
    (fun w _ => placed_checked w fun _ => placed_checked w fun _ => placed_checked w fun _ => rfl) e)

/-- Settles O18: the operands in range replace the window whole, and any other is refused by the first that is out of
range. -/
theorem writeWindowReplacesOneWindow : Obligations.WriteWindowReplacesOneWindow := by
  unfold Obligations.WriteWindowReplacesOneWindow
  refine fun s tag h => ⟨fun p i w hb hl => exec_writeWindow h ?_, fun port window raw hbad => exec_writeWindow h ?_⟩
  · rw [port?_byteOf, windowIx?_byteOf, window?_rawWindow hb hl]
    rfl
  · rcases hbad with hport | hwindow | hentry
    · rw [port?, index?_none hport]
      rfl
    · rw [windowIx?, index?_none hwindow]
      cases port? port <;> rfl
    · rw [window?_none hentry]
      cases port? port <;> cases windowIx? window <;> rfl

/-! ### The arrival that a window admits (R65, R67, R70) -/

theorem permits_true {w : Window} {k : Kind}
    (h : w.access = .both ∨ (w.access = .read ∧ k = .read) ∨ (w.access = .write ∧ k = .write)) :
    permits w k = true := by
  rcases h with ha | ⟨ha, rfl⟩ | ⟨ha, rfl⟩ <;> simp [permits, ha]

/-- The first covering window permits the transaction's kind (R67). -/
theorem classify_admitted {ws : Vector Window 8} {t : Txn} {i : WindowIx} (hi : Covering ws t i)
    (hfirst : ∀ j : WindowIx, j.val < i.val → ¬ Covering ws t j) (hk : permits ws[i] t.kind = true) :
    classify ws t = .admitted i ws[i].account := by
  obtain ⟨hsplit, hbefore⟩ := windowOrder_split i
  have hf : (windowOrder.find? fun i => covers ws[i] (blockOf t)) = some i :=
    List.find?_eq_some_iff_append.mpr ⟨(covers_iff ws t i).mpr hi, _, _, hsplit, fun j hj => by
      rw [Bool.not_eq_true', Bool.eq_false_iff]
      exact fun hc => hfirst j (hbefore j hj) ((covers_iff ws t j).mp hc)⟩
  rw [classify, hf]
  exact if_pos hk

/-- Step 7 of the acceptance rule for a transaction that its window admits (R45, R70). -/
theorem acceptSteps_admitted {s : State} {p : Port} {t : Txn} {i : WindowIx} (hm : s.mode = .engaged)
    (hs : s.ports[p].state = .active) (ht : StaysInBlock t) (hi : Covering s.windows[p] t i)
    (hfirst : ∀ j : WindowIx, j.val < i.val → ¬ Covering s.windows[p] t j)
    (hk : permits (s.windows[p])[i] t.kind = true) :
    acceptSteps s p t = appendRecord s p t .waiting (some (s.windows[p])[i].account) (some i) := by
  have hwell : ¬ malformed t = true := fun hbad => (malformed_iff t).mp hbad ht
  unfold acceptSteps
  rw [if_neg (by simp [hm]), if_neg (by rw [hs]; exact nofun), if_neg hwell, if_pos hm, decideByWindows,
    classify_admitted hi hfirst hk]

/-- Settles O41: step 7 appends a record that waits with its account and window, behind a front that is not
answerable. -/
theorem arrivalInEngagedIsClassified : Obligations.ArrivalInEngagedIsClassified := by
  unfold Obligations.ArrivalInEngagedIsClassified
  intro s p t i h hf ha hm hs hq ht w block hvalid hbase hlimit hfirst hk
  have hprompt : PortPrompt { s.ports[p] with
      queue := s.ports[p].queue ++ [newRecord s t .waiting (some w.account) (some i)] } :=
    ⟨front_append (hf p) rfl, fun _ => List.append_ne_nil_of_right_ne_nil _ nofun⟩
  rw [exec_arrival_taken h ha (holdsOff_of_room (.inl hs) hq (by rw [hm]; exact nofun)), accept,
    acceptSteps_admitted (s := begin s) hm hs ht ⟨hvalid, hbase, hlimit⟩ hfirst (permits_true hk), makeOffer_eq]
  exact congrArg (fun u => Host.Outcome.next (offering u))
    (answerFront_waiting (s := { begin s with serial := s.serial + 1 }) hprompt)

end Sys2Proof.Machine
end

section
/-! SUPPORT. The judgement of DISENGAGE, row by row of R120. -/

namespace Sys2Proof.Machine

/-! ### DISENGAGE (R120) -/

theorem disengageResult_eq {s : State} {m : Mode} {pending : Bool} (hm : s.mode = m)
    (hp : s.pendingDisengage = pending) : disengageResult s = [modeCode m, flagByte pending] := by
  rw [disengageResult, hm, hp]

theorem requestDisengage_accepted {s : State} (hm : s.mode = .engaged) (hp : s.pendingDisengage = false) :
    requestDisengage s = ⟨{ s with pendingDisengage := true }, .accepted, [0x02, 0x01]⟩ := by
  simp only [requestDisengage, hm, hp, Bool.false_eq_true, if_false]
  exact congrArg (Reply.mk _ .accepted) (disengageResult_eq (m := .engaged) (pending := true) rfl rfl)

theorem requestDisengage_busy {s : State} (hm : s.mode = .engaged) (hp : s.pendingDisengage = true) :
    requestDisengage s = ⟨s, .busy, [0x02, 0x01]⟩ := by
  simp only [requestDisengage, hm, hp, if_true]
  exact congrArg (Reply.mk s .busy) (disengageResult_eq hm hp)

/-- An unfinished drain is left: PASS is entered, and the selector chooses in it (R94, R116). -/
theorem requestDisengage_engaging {s : State} (hm : s.mode = .engaging) (hp : s.pendingDisengage = false) :
    requestDisengage s =
      ⟨offering (report { s with mode := .pass } { kind := .modeChange, detail := some 0x00 }), .done,
        [0x00, 0x00]⟩ := by
  simp only [requestDisengage, hm, makeOffer_eq]
  exact congrArg (Reply.mk _ .done) (disengageResult_eq (s := offering (enterMode s .pass)) rfl hp)

theorem requestDisengage_pass {s : State} (hm : s.mode = .pass) (hp : s.pendingDisengage = false) :
    requestDisengage s = ⟨s, .done, [0x00, 0x00]⟩ := by
  simp only [requestDisengage, hm]
  exact congrArg (Reply.mk s .done) (disengageResult_eq hm hp)

theorem requestDisengage_halted {s : State} (hm : s.mode = .halted) (hp : s.pendingDisengage = false) :
    requestDisengage s = ⟨s, .mode, [0x03, 0x00]⟩ := by
  simp only [requestDisengage, hm]
  exact congrArg (Reply.mk s .mode) (disengageResult_eq hm hp)

theorem exec_disengage {s t : State} {tag : Byte} {st : LinkStatus} {res : List Byte} (h : Ready s)
    (e : requestDisengage (begin s) = ⟨begin t, st, res⟩) :
    exec (.disengage tag) s = .next (afterTransfer s.link t (response st tag 0x41 res)) :=
  congrArg Host.Outcome.next (serve_reply h placed_requestDisengage e)

/-- Settles O25: the rows of R120, one for each mode and, in ENGAGED, each value of the flag. -/
theorem disengageFollowsTheModeAndTheFlag : Obligations.DisengageFollowsTheModeAndTheFlag := by
  unfold Obligations.DisengageFollowsTheModeAndTheFlag
  intro s tag h
  refine ⟨fun hm hp => ?_, fun hm hp => ?_, fun hm hp => ?_, fun hm hp => ?_, fun hm hp => ?_⟩
  · exact exec_disengage h (requestDisengage_accepted (s := begin s) hm hp)
  · exact exec_disengage h (requestDisengage_busy (s := begin s) hm hp)
  · exact exec_disengage h (requestDisengage_engaging (s := begin s) hm hp)
  · exact exec_disengage h (requestDisengage_pass (s := begin s) hm hp)
  · exact exec_disengage h (requestDisengage_halted (s := begin s) hm hp)

end Sys2Proof.Machine
end

section
/-! SUPPORT. The memory-side port: completions that settle no record, a timeout that halts, and the entries that
DISCARD_ABANDONED keeps. -/

namespace Sys2Proof.Machine

/-! ### Completions that settle no record (R105, R106) -/

/-- A completion matched to an ABANDONED entry removes the entry and reports the completion (R105). -/
theorem complete_late {s : State} {e : Entry} {rest : List Entry} (hl : s.memory.issue = e :: rest)
    (ha : e.state = .abandoned) (c : Completion) :
    complete c s = offering (report (setIssue s rest)
      { kind := .lateCompletion, port := some e.port, detail := some (completionCode c) }) := by
  unfold complete
  rw [hl]
  dsimp only
  unfold completeEntry
  rw [ha, ← makeOffer_eq]

/-- A completion that finds the list empty is reported (R106). -/
theorem complete_stray {s : State} (hl : s.memory.issue = []) (c : Completion) :
    complete c s = report s { kind := .strayCompletion, detail := some (completionCode c) } := by
  unfold complete
  rw [hl]

/-- Settles O48: the oldest entry is ABANDONED, or there is none. -/
theorem lateAndStrayCompletionsAreDiscarded : Obligations.LateAndStrayCompletionsAreDiscarded := by
  unfold Obligations.LateAndStrayCompletionsAreDiscarded
  refine fun s c h => ⟨fun e rest hl ha => ?_, fun hl => ?_⟩
  · rw [exec_completion h, complete_late (s := begin s) hl ha]
    cases c <;> rfl
  · rw [exec_completion h, complete_stray (s := begin s) hl]
    cases c <;> rfl

/-! ### A timeout that halts (R104, R107) -/

section Timeout

variable {s : State} {e : Entry} {before after : List Entry} {n : Nat} {r : Record}

/-- The oldest due entry is the one that only entries not due precede. -/
theorem find_timeoutDue (hl : s.memory.issue = before ++ e :: after) (hb : ∀ x ∈ before, timeoutDue x = false)
    (hdue : timeoutDue e = true) : s.memory.issue.find? timeoutDue = some e :=
  List.find?_eq_some_iff_append.mpr ⟨hdue, before, after, hl, fun x hx => by simp [hb x hx]⟩

/-- ENTRY_TIMEOUT with an entry due is one timeout. -/
theorem exec_entryTimeout_due (hreset : s.inReset = false) (he : s.memory.issue.find? timeoutDue = some e) :
    exec .entryTimeout s = .next (timeOut (begin s)) :=
  have hany : s.memory.issue.any timeoutDue = true :=
    List.any_eq_true.mpr ⟨e, List.mem_of_find?_eq_some he, List.find?_some he⟩
  congrArg Host.Outcome.next (whenDue_due s _ timeOut hreset hany)

/-- A timeout under fault action HALT enters HALTED from any other mode (R107). -/
theorem timeOut_halts (he : s.memory.issue.find? timeoutDue = some e) (ha : s.memory.faultAction = .halt)
    (hm : s.mode ≠ .halted) : timeOut s = enterHalted (afterTimeout s e) := by
  unfold timeOut
  rw [he]
  exact if_pos ⟨ha, hm⟩

/-- Before the fault action: the entry is abandoned in its place, its record is DONE, TIMEOUT, and
DOWNSTREAM_TIMEOUT is stored (R104). -/
theorem afterTimeout_served (hl : s.memory.issue = before ++ e :: after)
    (hb : ∀ x ∈ before, timeoutDue x = false) (hdue : timeoutDue e = true) (hn : e.record = some n)
    (hr : s.ports[e.port].queue.find? (fun x => x.serial == n) = some r) :
    afterTimeout s e = report
      (setQueue (setIssue s (before ++ { e with state := .abandoned, record := none } :: after)) e.port
        (s.ports[e.port].queue.map fun x => if x.serial = n then timedOut x else x))
      (downstreamReport .downstreamTimeout e.port (some r)) := by
  have hlist : abandonFirst s.memory.issue = before ++ { e with state := .abandoned, record := none } :: after :=
    hl ▸ abandonFirst_append hb hdue
  rw [afterTimeout, recordOf_some hn hr, settleRecord_some hn, hlist]
  rfl

end Timeout

/-- Settles O50: the timeout's own effects come first, and the halt is entered from the state that they leave. -/
theorem timeoutWithFaultActionHaltHalts : Obligations.TimeoutWithFaultActionHaltHalts := by
  unfold Obligations.TimeoutWithFaultActionHaltHalts
  intro s e before after n r hreset hl hb hw hlimit hticks hn hr hact hm
  have hdue : timeoutDue e = true := (timeoutDue_iff e).mpr ⟨hw, hlimit, hticks⟩
  have hfind := find_timeoutDue hl hb hdue
  have hexec : exec .entryTimeout s = .next (enterHalted (afterTimeout (begin s) e)) := by
    rw [exec_entryTimeout_due hreset hfind, timeOut_halts (s := begin s) hfind hact hm]
  rw [afterTimeout_served (s := begin s) hl hb hdue hn hr] at hexec
  have hblind : Blind enterHalted := within_enterHalted
  obtain ⟨-, -, hlink, hpresented, hldo⟩ := hblind.forwarding.frame _
  exact ⟨_, hexec, hlink, hldo, hpresented, haltedFrom_enterHalted _⟩

/-! ### DISCARD_ABANDONED (R109) -/

/-- Every entry either waits or is ABANDONED, so the two counts make up the list. -/
theorem length_eq_countP_abandoned_add (l : List Entry) :
    l.length = l.countP (fun e => e.state = .abandoned) + (l.filter waitsForCompletion).length := by
  have hnot : ∀ e : Entry, (¬ waitsForCompletion e = true) ↔ decide (e.state = .abandoned) = true := by
    intro e
    cases h : e.state <;> simp [waitsForCompletion, h]
  rw [List.length_eq_countP_add_countP waitsForCompletion, List.countP_eq_length_filter (p := waitsForCompletion),
    Nat.add_comm]
  exact congrArg (· + _) (List.countP_congr fun e _ => by simpa using hnot e)

/-- DISCARD_ABANDONED keeps the entries that wait and reports how many entries left and how many stay. -/
theorem discard_eq (s : State) :
    discard s =
      ⟨offering (setIssue s (s.memory.issue.filter waitsForCompletion)), .done,
        [byteOf (s.memory.issue.countP fun e => e.state = .abandoned),
          byteOf (s.memory.issue.filter waitsForCompletion).length]⟩ := by
  have hcount := length_eq_countP_abandoned_add s.memory.issue
  rw [discard, makeOffer_eq, hcount, Nat.add_sub_cancel]

/-- Settles O30: the entries that are not ABANDONED are those that wait, and the selector may offer. -/
theorem discardAbandonedKeepsTheOthers : Obligations.DiscardAbandonedKeepsTheOthers := by
  unfold Obligations.DiscardAbandonedKeepsTheOthers
  exact fun s tag h => congrArg Host.Outcome.next (serve_reply h placed_discard (discard_eq (begin s)))

end Sys2Proof.Machine
end

section
/-! SUPPORT. The judgements of ENGAGE and RESTART, row by row of R117 and R126. -/

namespace Sys2Proof.Machine

/-! ### ENGAGE (R117, R118, R119) -/

section Engage

variable {s : State} {b : BankIx} {signature : Half}

/-- The state that an accepted ENGAGE enters before the drain test (R117). -/
def engagingUnder (b : BankIx) (s : State) : State :=
  report { s with mode := .engaging, calendar := { s.calendar with active := b } }
    { kind := .modeChange, detail := some 0x01 }

/-- Naming the active bank and storing the event touch neither a queue nor the issue list. -/
theorem drained_engagingUnder (b : BankIx) (s : State) :
    drained (engagingUnder b s) = true ↔ DrainComplete s := drained_iff _

theorem startEngaging_draining (h : ¬ DrainComplete s) : startEngaging b s = engagingUnder b s :=
  if_neg ((drained_engagingUnder b s).not.mpr h)

/-- With the drain complete the run starts at once, and no port has a record to offer. -/
theorem startEngaging_drained (h : DrainComplete s) (ho : s.offer = none) :
    startEngaging b s = startedRun (engagingUnder b s) := by
  have hempty : choose (startedRun (engagingUnder b s)) = none :=
    choose_of_empty_queues fun p => by simpa [startedRun, engagingUnder] using h.1 p
  calc startEngaging b s = enterEngaged (engagingUnder b s) := if_pos ((drained_engagingUnder b s).mpr h)
    _ = offering (startedRun (engagingUnder b s)) := enterEngaged_eq _
    _ = startedRun (engagingUnder b s) := offering_of_none ho hempty

theorem requestEngage_mode (hm : s.mode ≠ .pass) : requestEngage b signature s = refuse s .mode := if_pos hm

theorem requestEngage_badvalue (hm : s.mode = .pass) (h0 : s.calendar.banks[b].slots = 0) :
    requestEngage b signature s = refuse s .badvalue := by
  rw [requestEngage, if_neg (not_not.mpr hm), if_pos h0]

theorem requestEngage_signature (hm : s.mode = .pass) (h0 : s.calendar.banks[b].slots ≠ 0)
    (hs : s.calendar.banks[b].signature ≠ signature) : requestEngage b signature s = refuse s .signature := by
  rw [requestEngage, if_neg (not_not.mpr hm), if_neg h0, if_pos hs]

/-- An accepted ENGAGE answers with the mode that it reached and the active bank (R117). -/
theorem requestEngage_accepted {t : State} (hm : s.mode = .pass) (h0 : s.calendar.banks[b].slots ≠ 0)
    (hs : s.calendar.banks[b].signature = signature) (ht : startEngaging b s = t) :
    requestEngage b signature s = ⟨t, .accepted, [modeCode t.mode, byteOf t.calendar.active.val]⟩ := by
  rw [requestEngage, if_neg (not_not.mpr hm), if_neg h0, if_neg (not_not.mpr hs), ht]

end Engage

theorem exec_engage {s t : State} {tag bank : Byte} {signature : Half} {st : LinkStatus} {res : List Byte}
    (h : Ready s)
    (e : (checked (bank? bank) (begin s) fun b => requestEngage b signature (begin s)) = ⟨begin t, st, res⟩) :
    exec (.engage tag bank signature) s = .next (afterTransfer s.link t (response st tag 0x40 res)) :=
  congrArg Host.Outcome.next (serve_reply h
    (fun w s => placed_checked w fun b => placed_requestEngage w s b signature) e)

/-- ENGAGE that names a bank is judged by R117. -/
theorem exec_engage_inRange {s t : State} {tag : Byte} {b : BankIx} {signature : Half} {st : LinkStatus}
    {res : List Byte} (h : Ready s) (e : requestEngage b signature (begin s) = ⟨begin t, st, res⟩) :
    exec (.engage tag (byteOf b.val) signature) s
      = .next (afterTransfer s.link t (response st tag 0x40 res)) :=
  exec_engage h (by rw [bank?_byteOf]; exact e)

/-- Settles O23: the three refusals of R117 in order, then the drain test of R118. -/
theorem engageIsJudgedAndDrains : Obligations.EngageIsJudgedAndDrains := by
  unfold Obligations.EngageIsJudgedAndDrains
  intro s tag b signature h
  refine ⟨fun hm => ?mode, fun hm h0 => ?empty, fun hm h0 hs => ?signature,
    fun hm h0 hs => ⟨fun hd => ?draining, fun hd ho => ?drained⟩, fun bank hbank => exec_engage h ?range⟩
  case mode => exact exec_engage_inRange h (requestEngage_mode (s := begin s) hm)
  case empty => exact exec_engage_inRange h (requestEngage_badvalue (s := begin s) hm h0)
  case signature => exact exec_engage_inRange h (requestEngage_signature (s := begin s) hm h0 hs)
  case draining =>
    exact exec_engage_inRange h
      (requestEngage_accepted (s := begin s) hm h0 hs (startEngaging_draining (s := begin s) hd))
  case drained =>
    exact exec_engage_inRange h
      (requestEngage_accepted (s := begin s) hm h0 hs (startEngaging_drained (s := begin s) hd ho))
  case range =>
    rw [bank?, index?_none hbank]
    rfl

/-! ### RESTART (R126) -/

theorem requestRestart_mode {s : State} (hm : s.mode ≠ .halted) : requestRestart s = refuse s .mode := if_pos hm

/-- PASS is entered at frame 0, slot 0 with no ticks remaining, and the selector chooses in it (R94, R126). -/
theorem requestRestart_halted {s : State} (hm : s.mode = .halted) :
    requestRestart s =
      ⟨offering (report
        { s with
          mode := .pass
          calendar := { s.calendar with frame := 0, slot := 0, ticks := 0, pendingSwitch := false } }
        { kind := .modeChange, detail := some 0x00 }), .done, [0x00]⟩ :=
  (if_neg (not_not.mpr hm)).trans (congrArg (Reply.mk · .done _) (makeOffer_eq _))

theorem exec_restart {s t : State} {tag : Byte} {st : LinkStatus} {res : List Byte} (h : Ready s)
    (e : requestRestart (begin s) = ⟨begin t, st, res⟩) :
    exec (.restart tag) s = .next (afterTransfer s.link t (response st tag 0x43 res)) :=
  congrArg Host.Outcome.next (serve_reply h placed_requestRestart e)

/-- Settles O27: the mode decides, and HALTED alone is left. -/
theorem restartReturnsToPass : Obligations.RestartReturnsToPass := by
  unfold Obligations.RestartReturnsToPass
  intro s tag h
  exact ⟨fun hm => exec_restart h (requestRestart_mode (s := begin s) hm),
    fun hm => exec_restart h (requestRestart_halted (s := begin s) hm)⟩

end Sys2Proof.Machine
end

section
/-! SUPPORT. The law of the event unit: a record stored takes the next number, a record removed is the oldest, and
whatever changes the queue or the mask judges the alert line again. Of the operations and commands of the blocks, most
store events or leave the event unit. -/

namespace Sys2Proof.Machine

/-! ### The queue and the alert line (R130, R137) -/

/-- The record that follows the newest may join the queue (R130). -/
theorem consecutive_append {q : List Event} {e : Event} (h : consecutive q e.sequence) :
    consecutive (q ++ [e]) (e.sequence + 1) := by
  induction q with
  | nil => rfl
  | cons x q ih =>
    cases q with
    | nil => exact ⟨h, rfl⟩
    | cons y q => exact ⟨h.1, ih h.2⟩

/-- The oldest record may leave the queue (R134). -/
theorem consecutive_tail {e : Event} {q : List Event} {n : Half} (h : consecutive (e :: q) n) : consecutive q n := by
  cases q with
  | nil => trivial
  | cons x q => exact h.2

theorem alertJudged_iff (q : List Event) (mask : BitVec 13) :
    alertJudged q mask = true ↔ ∃ e ∈ q, inMask mask e.report.kind = true := List.any_eq_true

namespace EventsSound

variable {s t : State}

theorem of_events (h : EventsSound s) (e : t.events = s.events) : EventsSound t where
  held := e ▸ h.held
  ordered := e ▸ h.ordered
  loss := e ▸ h.loss
  alert := e ▸ h.alert

/-- Storing an event keeps the law: the record takes the next number, or it is dropped and counted (R130, R131). -/
theorem stored (h : EventsSound s) {at_ : Position} {r : Report} (e : t.events = storeIn s.events at_ r) :
    EventsSound t := by
  by_cases hroom : s.events.queue.length < 32
  · rw [storeIn_stored _ _ _ hroom] at e
    refine ⟨?_, ?_, ?_, ?_⟩ <;> rw [e]
    · simpa using hroom
    · exact consecutive_append h.ordered
    · exact Nat.zero_le _
    · exact alertJudged_iff ..
  · rw [storeIn_dropped _ _ _ (Nat.not_lt.mp hroom)] at e
    refine ⟨?_, ?_, ?_, ?_⟩ <;> rw [e]
    · exact h.held
    · exact h.ordered
    · exact Nat.min_le_right ..
    · exact h.alert

theorem reported (h : EventsSound s) (r : Report) : EventsSound (report s r) := h.stored rfl

/-- The same, where the event comes under a condition. -/
theorem stored_if (h : EventsSound s) {c : Prop} [Decidable c] {at_ : Position} {r : Report}
    (e : t.events = if c then storeIn s.events at_ r else s.events) : EventsSound t := by
  split_ifs at e
  · exact h.stored e
  · exact h.of_events e

theorem after_enterMode (h : EventsSound s) (m : Mode) : EventsSound (enterMode s m) := h.stored (enterMode_events s m)

/-- What each application of an operation keeps, a fold of it keeps. -/
theorem foldl {α : Type} {f : State → α → State} (h : EventsSound s)
    (hf : ∀ u a, EventsSound u → EventsSound (f u a)) (l : List α) : EventsSound (l.foldl f s) :=
  List.foldlRecOn l f h fun u hu a _ => hf u a hu

/-! ### The selector and the answers -/

theorem after_offering (h : EventsSound s) : EventsSound (offering s) := h.of_events rfl

theorem after_makeOffer (h : EventsSound s) : EventsSound (makeOffer s) := makeOffer_eq s ▸ h.after_offering

theorem after_rejudge (h : EventsSound s) : EventsSound (rejudge s) := by
  rw [rejudge_eq]
  exact h.of_events rfl

theorem after_answerFront (h : EventsSound s) (p : Port) : EventsSound (answerFront s p) :=
  h.stored_if (answerFront_events s p)

/-! ### Acceptance (R46, R61, R68, R69) -/

theorem after_refuseWithStrike (h : EventsSound s) (p : Port) (t : Txn) (st : Status) (w : Option WindowIx)
    (r : Report) : EventsSound (refuseWithStrike s p t st w r) := by
  rw [refuseWithStrike_eq]
  exact (h.reported r).stored_if rfl

theorem after_acceptSteps (h : EventsSound s) (p : Port) (t : Txn) : EventsSound (acceptSteps s p t) := by
  have hwindows : EventsSound (decideByWindows s p t) := by
    unfold decideByWindows
    split
    · exact h.after_refuseWithStrike ..
    · exact h.after_refuseWithStrike ..
    · exact h.of_events rfl
  unfold acceptSteps
  split_ifs
  · exact h.of_events rfl
  · exact h.of_events rfl
  · exact h.after_refuseWithStrike ..
  · exact h.of_events rfl
  · exact hwindows
  · exact h.of_events rfl

theorem after_accept (h : EventsSound s) (p : Port) (t : Txn) : EventsSound (accept s p t) :=
  ((h.after_acceptSteps p t).after_answerFront p).after_makeOffer

theorem after_takeHeld (h : EventsSound s) (p : Port) : EventsSound (takeHeld s p) := by
  have harrival : EventsSound (setArrival s p none) := h.of_events rfl
  unfold takeHeld
  split
  · exact h
  · split_ifs
    · exact h
    · exact harrival.after_accept p _

theorem after_present (h : EventsSound s) (p : Port) (t : Txn) : EventsSound (present p t s) := by
  unfold present
  split_ifs
  · exact h
  · exact h.of_events rfl
  · exact h.after_accept p t

/-! ### The take (R28) -/

theorem after_chargeOne (h : EventsSound s) (beats : Nat) (a : AccountIx) : EventsSound (chargeOne beats s a) := by
  obtain ⟨-, hevents⟩ := chargeOne_cases beats s a
  exact h.stored_if hevents

/-- A charge may exhaust any account of the chain. -/
theorem after_chargeTake (h : EventsSound s) (o : Offer) (r : Record) : EventsSound (chargeTake s o r) := by
  unfold chargeTake
  split
  · exact h
  · split_ifs
    · exact h.foldl (fun _ x hu => hu.after_chargeOne r.txn.beats x) _
    · exact h

theorem after_takeOffer (h : EventsSound s) : EventsSound (takeOffer s) := by
  unfold takeOffer
  split
  · exact h
  · next o _ =>
    split
    · exact h
    · next r _ =>
      have hissued : EventsSound (issued s o r) := h.of_events rfl
      rw [issue_eq]
      exact (hissued.after_chargeTake o r).after_offering

/-! ### Mode changes (R116, R119, R122) -/

/-- The ports that end their quiescing report it, and the change of mode follows (R55, R123). -/
theorem after_enterHalted (h : EventsSound s) : EventsSound (enterHalted s) := by
  have hsettled : EventsSound (settledByHalt s) := h.of_events rfl
  have hanswered := hsettled.foldl (fun _ p hu => hu.after_answerFront p) (answerOrder (settledByHalt s))
  have hall : EventsSound (answerAll (settledByHalt s)) := hanswered.of_events rfl
  rw [enterHalted_eq]
  exact hall.reported _

theorem after_enterEngaged (h : EventsSound s) : EventsSound (enterEngaged s) := by
  have hrun : EventsSound (startedRun s) := h.stored rfl
  rw [enterEngaged_eq]
  exact hrun.after_offering

theorem after_startEngaging (h : EventsSound s) (b : BankIx) : EventsSound (startEngaging b s) := by
  have hcalendar : EventsSound (setCalendar s { s.calendar with active := b }) := h.of_events rfl
  have hmode := hcalendar.after_enterMode .engaging
  simp only [startEngaging]
  split_ifs
  · exact hmode.after_enterEngaged
  · exact hmode

/-- PASS is entered with some calendar, and the selector chooses in it (R120, R126). -/
theorem after_pass (h : EventsSound s) (k : Calendar) : EventsSound (makeOffer (enterMode (setCalendar s k) .pass)) :=
  have hcalendar : EventsSound (setCalendar s k) := h.of_events rfl
  (hcalendar.after_enterMode .pass).after_makeOffer

/-! ### The memory side (R103 to R106) -/

theorem after_settleRecord (h : EventsSound s) (e : Entry) (f : Record → Record) : EventsSound (settleRecord s e f) := by
  unfold settleRecord
  split <;> exact h.of_events rfl

theorem after_timeOut (h : EventsSound s) : EventsSound (timeOut s) := by
  have hissue : EventsSound (setIssue s (abandonFirst s.memory.issue)) := h.of_events rfl
  have hafter : ∀ e, EventsSound (afterTimeout s e) := fun e => (hissue.after_settleRecord e timedOut).reported _
  rcases timeOut_cases s with e | ⟨x, -, e | e⟩ <;> rw [e]
  · exact h
  · exact (hafter x).after_enterHalted
  · exact ((hafter x).after_answerFront _).after_makeOffer

theorem after_complete (h : EventsSound s) (c : Completion) : EventsSound (complete c s) := by
  unfold complete
  split
  · exact h.reported _
  · next e rest _ =>
    have hissue : EventsSound (setIssue s rest) := h.of_events rfl
    unfold completeEntry
    split
    · exact (hissue.reported _).after_makeOffer
    · have hset := hissue.after_settleRecord e (completeRecord c)
      refine (EventsSound.after_answerFront ?_ _).after_makeOffer
      unfold noteCompletion
      split
      · split_ifs <;> exact hset.of_events rfl
      · exact hset.reported _

/-! ### The tick (R17, R19, R121) -/

/-- A frame boundary may drop the pending switch and change the mode, or make the switch. -/
theorem after_boundary (h : EventsSound s) : EventsSound (boundary s) := by
  have hcommon : EventsSound (boundaryCommon s) := h.of_events rfl
  refine EventsSound.after_makeOffer ?_
  split_ifs
  · refine EventsSound.after_enterMode ?_ .pass
    split_ifs
    · exact hcommon.stored rfl
    · exact hcommon.of_events rfl
  · exact hcommon.stored rfl
  · exact hcommon.of_events rfl

theorem after_tickCalendar (h : EventsSound s) : EventsSound (tickCalendar s) := by
  rcases tickCalendar_cases s with ⟨-, -, e⟩ | ⟨-, -, e⟩ | ⟨-, e⟩ <;> rw [e]
  · exact EventsSound.after_makeOffer (h.of_events rfl)
  · exact h.after_boundary
  · exact h.of_events rfl

theorem after_tickBoth (h : EventsSound s) : EventsSound (tickBoth s) := by
  have hcounted : EventsSound (setIssue s (s.memory.issue.map countTick)) := h.of_events rfl
  simp only [tickBoth]
  split_ifs
  · exact hcounted.after_tickCalendar
  · exact hcounted

/-! ### What is due, and the frames of the commands -/

theorem after_settle (h : EventsSound s) : EventsSound (settle s) := by
  have htime : ∀ (n : Nat) (u : State), EventsSound u → EventsSound (timeOutAll n u) := fun n => by
    induction n with
    | zero => exact fun _ hu => hu
    | succ n ih => exact fun u hu => ih _ hu.after_timeOut
  have ht := htime s.memory.issue.length s h
  rw [settle_eq]
  refine EventsSound.foldl ?_ (fun _ p hu => hu.after_takeHeld p) allPorts
  split_ifs
  · exact ht.after_enterEngaged
  · exact ht

theorem law : BlockLaw EventsSound where
  congr {s t} h e :=
    have he : (blocks t).events = (blocks s).events := congrArg State.events e
    h.of_events he
  settle h := h.after_settle

theorem checked {α : Type} {o : Option α} {judge : α → Reply} (h : EventsSound s)
    (hj : ∀ x, EventsSound (judge x).after) : EventsSound (checked o s judge).after :=
  checked_after EventsSound h fun x _ => hj x

/-! ### The judgements of the service commands -/

theorem after_writeBank (h : EventsSound s) (b : BankIx) (n : Nat) (entries : Vector SlotEntry 32) :
    EventsSound (writeBank s b n entries).after := by
  unfold writeBank
  split <;> exact h.of_events rfl

theorem after_requestSwitch (h : EventsSound s) (signature : Half) : EventsSound (requestSwitch signature s).after := by
  unfold requestSwitch
  split_ifs <;> exact h.of_events rfl

theorem after_describeAccount (h : EventsSound s) (a : AccountIx) (preload period : Nat) (parent : Option AccountIx)
    (exhaust : ExhaustMode) : EventsSound (describeAccount a preload period parent exhaust s).after := by
  unfold describeAccount
  split_ifs
  · exact h
  · exact EventsSound.after_rejudge (h.of_events rfl)

theorem after_refillAtOnce (h : EventsSound s) (a : AccountIx) : EventsSound (refillAtOnce a s).after := by
  unfold refillAtOnce
  split_ifs
  · exact h
  · exact EventsSound.after_rejudge (h.of_events rfl)

theorem after_requestEngage (h : EventsSound s) (b : BankIx) (signature : Half) :
    EventsSound (requestEngage b signature s).after := by
  unfold requestEngage
  split_ifs
  case neg => exact h.after_startEngaging b
  all_goals exact h

theorem after_requestDisengage (h : EventsSound s) : EventsSound (requestDisengage s).after := by
  unfold requestDisengage
  split
  · split_ifs <;> exact h.of_events rfl
  · exact h.after_pass s.calendar
  · exact h
  · exact h

theorem after_requestHalt (h : EventsSound s) : EventsSound (requestHalt s).after := by
  unfold requestHalt
  split_ifs
  · exact h
  · exact h.after_enterHalted

theorem after_requestRestart (h : EventsSound s) : EventsSound (requestRestart s).after := by
  unfold requestRestart
  split_ifs
  · exact h
  · exact h.after_pass _

/-- PORT_QUIESCED of a QUIESCE that finds or leaves the queue empty (R54, R55). -/
theorem after_quiescePort (h : EventsSound s) (p : Port) (flush : Bool) :
    EventsSound (quiescePort p flush s).after := by
  have hflush : (flushPort p (setPortState s p .quiescing)).events = s.events := by
    rw [flushPort_eq]
    rfl
  have hquiesced : EventsSound (makeOffer (answerFront
      (if flush then flushPort p (setPortState s p .quiescing) else setPortState s p .quiescing) p)) := by
    refine (EventsSound.after_answerFront ?_ p).after_makeOffer
    split_ifs
    · exact h.of_events hflush
    · exact h.of_events rfl
  unfold quiescePort
  split
  · exact h
  · exact h
  · exact hquiesced
  · exact hquiesced

theorem after_resumePort (h : EventsSound s) (p : Port) : EventsSound (resumePort p s).after := by
  unfold resumePort
  split <;> exact h.of_events rfl

theorem after_judgeDepth (h : EventsSound s) (n : Nat) : EventsSound (judgeDepth n s).after := by
  unfold judgeDepth
  split_ifs <;> exact h.of_events rfl

theorem after_readOldest (h : EventsSound s) : EventsSound (readOldest s).after := by
  unfold readOldest
  split <;> exact h

/-- The records that stay keep their numbers, and the alert line is judged on them (R134, R137). -/
theorem after_acknowledge (h : EventsSound s) (sequence : Half) : EventsSound (acknowledge sequence s).after := by
  unfold acknowledge
  split
  · exact h
  · next e rest hq =>
    split_ifs
    · have hheld : (e :: rest).length ≤ 32 := hq ▸ h.held
      have hordered : consecutive (e :: rest) s.events.nextSequence := hq ▸ h.ordered
      exact ⟨Nat.le_of_succ_le hheld, consecutive_tail hordered, h.loss, alertJudged_iff ..⟩
    · exact h

/-- The alert line is judged on the new mask (R136, R137). -/
theorem after_setMask (h : EventsSound s) (mask : BitVec 13) : EventsSound (setMask mask s).after where
  held := h.held
  ordered := h.ordered
  loss := h.loss
  alert := alertJudged_iff ..

theorem after_readStatistics (h : EventsSound s) (o : StatsObject) (clear : Bool) :
    EventsSound (readStatistics o clear s).after := by
  cases o <;> cases clear <;> exact h.of_events rfl

/-! ### Every command keeps the law -/

/-- The rows of the bus. -/
theorem bus (h : EventsSound s) {c : Instr} (hc : rowKind c = .bus) : ∃ t, exec c s = .next t ∧ EventsSound t := by
  cases c with
  | tick => exact ⟨_, rfl, law.onBus h fun _ hu => hu.after_tickBoth⟩
  | slotExpiry =>
    refine ⟨_, rfl, law.onBus h fun u hu => ?_⟩
    split_ifs
    · exact hu.after_tickBoth
    · exact hu
  | frameBoundary =>
    refine ⟨_, rfl, law.onBus h fun u hu => ?_⟩
    split_ifs
    · exact hu.after_tickBoth
    · exact hu
  | arrival p x => exact ⟨_, rfl, law.onBus h fun _ hu => hu.after_present p x⟩
  | arrivalWithdraw => exact ⟨_, rfl, law.onBus h fun _ hu => hu.of_events rfl⟩
  | take => exact ⟨_, rfl, law.onBus h fun _ hu => hu.after_takeOffer⟩
  | completion r => exact ⟨_, rfl, law.onBus h fun _ hu => hu.after_complete r⟩
  | _ => cases hc

/-- The rows of occurrences that another makes due. -/
theorem consequence (h : EventsSound s) {c : Instr} (hc : rowKind c = .consequence) :
    ∃ t, exec c s = .next t ∧ EventsSound t := by
  cases c with
  | heldArrivalTake p => exact ⟨_, rfl, law.whenDue h (fun _ hu _ => hu.after_takeHeld p) rfl⟩
  | entryTimeout => exact ⟨_, rfl, law.whenDue h (fun _ hu _ => hu.after_timeOut) rfl⟩
  | drainComplete => exact ⟨_, rfl, law.whenDue h (fun _ hu _ => hu.after_enterEngaged) rfl⟩
  | _ => cases hc

/-- The rows of the commands that a block judges, by the number of operands checked and what the block does. -/
theorem service (h : EventsSound s) {c : Instr} (hc : rowKind c = .service) :
    ∃ t, exec c s = .next t ∧ EventsSound t := by
  cases c with
  | readStatus => exact ⟨_, rfl, law.serve h fun _ hu => hu⟩
  | readBank | readAccount | clearOverride | setTimeout | setFaultAction | setFenceLimit =>
    exact ⟨_, rfl, law.serve h fun _ hu => hu.checked fun _ => hu.of_events rfl⟩
  | readSlot | readWindow | stageOverride =>
    exact ⟨_, rfl, law.serve h fun _ hu => hu.checked fun _ => hu.checked fun _ => hu.of_events rfl⟩
  | writeWindow =>
    exact ⟨_, rfl, law.serve h fun _ hu => hu.checked fun _ => hu.checked fun _ => hu.checked fun _ =>
      hu.of_events rfl⟩
  | writeBankHeader =>
    exact ⟨_, rfl, law.serve h fun _ hu => hu.checked fun _ => hu.checked fun _ => hu.after_writeBank ..⟩
  | writeSlot =>
    exact ⟨_, rfl, law.serve h fun _ hu => hu.checked fun _ => hu.checked fun _ => hu.checked fun _ =>
      hu.after_writeBank ..⟩
  | switch tag signature => exact ⟨_, rfl, law.serve h fun _ hu => hu.after_requestSwitch signature⟩
  | cancelSwitch =>
    refine ⟨_, rfl, law.serve h fun u hu => ?_⟩
    split_ifs <;> exact hu.of_events rfl
  | writeAccount =>
    exact ⟨_, rfl, law.serve h fun _ hu => hu.checked fun _ => hu.checked fun _ => hu.checked fun _ =>
      hu.checked fun _ => hu.after_describeAccount ..⟩
  | refillNow => exact ⟨_, rfl, law.serve h fun _ hu => hu.checked fun a => hu.after_refillAtOnce a⟩
  | engage tag bank signature =>
    exact ⟨_, rfl, law.serve h fun _ hu => hu.checked fun b => hu.after_requestEngage b signature⟩
  | disengage => exact ⟨_, rfl, law.serve h fun _ hu => hu.after_requestDisengage⟩
  | halt => exact ⟨_, rfl, law.serve h fun _ hu => hu.after_requestHalt⟩
  | restart => exact ⟨_, rfl, law.serve h fun _ hu => hu.after_requestRestart⟩
  | quiesce =>
    exact ⟨_, rfl, law.serve h fun _ hu => hu.checked fun p => hu.checked fun f => hu.after_quiescePort p f⟩
  | resume => exact ⟨_, rfl, law.serve h fun _ hu => hu.checked fun p => hu.after_resumePort p⟩
  | setTickDivider =>
    refine ⟨_, rfl, law.serve h fun u hu => hu.checked fun n => ?_⟩
    split_ifs <;> exact hu.of_events rfl
  | setDepth => exact ⟨_, rfl, law.serve h fun _ hu => hu.checked fun n => hu.after_judgeDepth n⟩
  | setAlertMask => exact ⟨_, rfl, law.serve h fun _ hu => hu.checked fun m => hu.after_setMask m⟩
  | discardAbandoned =>
    exact ⟨_, rfl, law.serve h fun _ hu => EventsSound.after_makeOffer (hu.of_events rfl)⟩
  | readEvent => exact ⟨_, rfl, law.serve h fun _ hu => hu.after_readOldest⟩
  | ackEvent tag sequence => exact ⟨_, rfl, law.serve h fun _ hu => hu.after_acknowledge sequence⟩
  | readStats =>
    exact ⟨_, rfl, law.serve h fun _ hu => hu.checked fun o => hu.checked fun f => hu.after_readStatistics o f⟩
  | _ => cases hc

/-- Every command completes, and its next state keeps the law. -/
theorem after_exec (h : EventsSound s) (c : Instr) : ∃ t, exec c s = .next t ∧ EventsSound t := by
  cases hc : rowKind c with
  | bus => exact h.bus hc
  | service => exact h.service hc
  | consequence => exact h.consequence hc
  | link =>
    cases c with
    | shortTransfer | badcrcPacket | unknownCommand | nop => exact ⟨_, rfl, law.onLink h _ _⟩
    | _ => cases hc
  | edge =>
    by_cases hr : c = .resetAssert
    · subst hr
      exact ⟨_, rfl, eventsSound_reset.of_events rfl⟩
    · exact law.edge h hc hr

end EventsSound

/-- Settles O54: every command keeps the law of the event unit, and a step runs one command or none. -/
theorem eventQueueStaysSound : Obligations.EventQueueStaysSound := by
  unfold Obligations.EventQueueStaysSound
  exact fun s t h e => EventsSound.law.step (fun c _ hu => hu.after_exec c) h e

end Sys2Proof.Machine
end

section
/-! SUPPORT. The event unit's and the statistics' commands as a ready link meets them, and the storing of an event. -/

namespace Sys2Proof.Machine

/-! ### The oldest record (R133, R134) -/

section Oldest

variable {s : State} {e : Event} {rest : List Event} {sequence : Half}

theorem readOldest_empty (hq : s.events.queue = []) : readOldest s = ⟨s, .empty, [byteOf s.events.pendingLoss]⟩ := by
  rw [readOldest, hq]

theorem readOldest_held (hq : s.events.queue = e :: rest) :
    readOldest s = ⟨s, .done, eventResult e s.events.queue.length⟩ := by
  simp only [readOldest, hq]

theorem acknowledge_empty (hq : s.events.queue = []) :
    acknowledge sequence s = ⟨s, .stale, [0x00, 0x00, 0x00, 0x00]⟩ := by
  rw [acknowledge, hq]
  rfl

theorem acknowledge_stale (hq : s.events.queue = e :: rest) (hs : e.sequence ≠ sequence) :
    acknowledge sequence s =
      ⟨s, .stale, byteOf s.events.queue.length :: 0x01 :: halfBytes e.sequence⟩ := by
  simp only [acknowledge, hq, if_neg hs]
  rfl

theorem acknowledge_oldest (hq : s.events.queue = e :: rest) (hs : e.sequence = sequence) :
    acknowledge sequence s =
      ⟨setEvents s { s.events with queue := rest, alert := alertJudged rest s.events.mask }, .done,
        ackResult rest⟩ := by
  simp only [acknowledge, hq, if_pos hs]

end Oldest

/-! ### The objects of READ_STATS (R157) -/

theorem byteOf_toNat_lt {n : Nat} (h : n < 256) : (byteOf n).toNat = n := by
  rw [byteOf, BitVec.toNat_ofNat]
  exact Nat.mod_eq_of_lt h

theorem statsObject?_beats (p : Port) : statsObject? (byteOf p.val) = some (.beats p) := by
  have hb : (byteOf p.val).toNat = p.val := byteOf_toNat_lt (by omega)
  simp [statsObject?, hb]

theorem statsObject?_exceptions (p : Port) : statsObject? (byteOf (p.val + 4)) = some (.exceptions p) := by
  have hb : (byteOf (p.val + 4)).toNat = p.val + 4 := byteOf_toNat_lt (by omega)
  simp [statsObject?, hb]

theorem statsObject?_account (a : AccountIx) : statsObject? (byteOf (a.val + 16)) = some (.account a) := by
  have hb : (byteOf (a.val + 16)).toNat = a.val + 16 := byteOf_toNat_lt (by omega)
  unfold statsObject?
  rw [dif_neg (by omega), dif_neg (by omega), dif_pos ⟨by omega, by omega⟩]
  simp [hb]

theorem statsObject?_none {b : Byte} (h : (8 ≤ b.toNat ∧ b.toNat < 16) ∨ 24 ≤ b.toNat) : statsObject? b = none := by
  unfold statsObject?
  rw [dif_neg (by omega), dif_neg (by omega), dif_neg (by omega)]

/-! ### The commands, as a ready link meets them -/

section Commands

variable {s t : State} {tag : Byte} {st : LinkStatus} {res : List Byte}

theorem exec_readEvent (h : Ready s) (e : readOldest (begin s) = ⟨begin t, st, res⟩) :
    exec (.readEvent tag) s = .next (afterTransfer s.link t (response st tag 0x70 res)) :=
  congrArg Host.Outcome.next (serve_reply h placed_readOldest e)

theorem exec_ackEvent {sequence : Half} (h : Ready s) (e : acknowledge sequence (begin s) = ⟨begin t, st, res⟩) :
    exec (.ackEvent tag sequence) s = .next (afterTransfer s.link t (response st tag 0x71 res)) :=
  congrArg Host.Outcome.next (serve_reply h (fun w s => placed_acknowledge w s sequence) e)

theorem exec_readStats {object clear : Byte} (h : Ready s)
    (e : (checked (statsObject? object) (begin s) fun o => checked (flag? clear) (begin s) fun f =>
      readStatistics o f (begin s)) = ⟨begin t, st, res⟩) :
    exec (.readStats tag object clear) s = .next (afterTransfer s.link t (response st tag 0x72 res)) :=
  congrArg Host.Outcome.next (serve_reply h
    (fun w s => placed_checked w fun o => placed_checked w fun f => placed_readStatistics w s o f) e)

/-- READ_STATS that names an object reads it, and clears it where the flag is set. -/
theorem exec_readStats_inRange {object : Byte} {o : StatsObject} {clear : Bool} (h : Ready s)
    (ho : statsObject? object = some o) (e : readStatistics o clear (begin s) = ⟨begin t, st, res⟩) :
    exec (.readStats tag object (flagByte clear)) s = .next (afterTransfer s.link t (response st tag 0x72 res)) :=
  exec_readStats h (by rw [ho, flag?_flagByte]; exact e)

end Commands

/-- Settles O31: the queue is empty, or its oldest record is read. -/
theorem readEventLeavesTheRecord : Obligations.ReadEventLeavesTheRecord := by
  unfold Obligations.ReadEventLeavesTheRecord
  intro s tag h
  exact ⟨fun hq => exec_readEvent h (readOldest_empty (s := begin s) hq),
    fun e rest hq => exec_readEvent h (readOldest_held (s := begin s) hq)⟩

/-- Settles O32: the queue is empty, or the number of its oldest record is compared. -/
theorem ackEventRemovesOnlyTheOldest : Obligations.AckEventRemovesOnlyTheOldest := by
  unfold Obligations.AckEventRemovesOnlyTheOldest
  refine fun s tag sequence h => ⟨fun hq => ?empty, fun e rest hq => ⟨fun hs => ?stale, fun hs => ?oldest⟩⟩
  case empty => exact exec_ackEvent h (acknowledge_empty (s := begin s) hq)
  case stale => exact exec_ackEvent h (acknowledge_stale (s := begin s) hq hs)
  case oldest =>
    have he := acknowledge_oldest (s := begin s) hq hs
    cases rest <;> exact exec_ackEvent h he

/-- Settles O33: each object is found at its codes, and what is returned is what the flag clears. -/
theorem readStatsClearsWhatItReturns : Obligations.ReadStatsClearsWhatItReturns := by
  unfold Obligations.ReadStatsClearsWhatItReturns
  refine fun s tag clear h => ⟨fun p => ?beats, fun p => ?exceptions, fun a => ?account,
    fun object flag hbad => exec_readStats h ?range⟩
  case beats =>
    refine exec_readStats_inRange h (statsObject?_beats p) ?_
    cases clear <;> rfl
  case exceptions =>
    refine exec_readStats_inRange h (statsObject?_exceptions p) ?_
    cases clear <;> rfl
  case account =>
    refine exec_readStats_inRange h (statsObject?_account a) ?_
    cases clear <;> rfl
  case range =>
    rw [← or_assoc] at hbad
    rcases hbad with hobject | hflag
    · rw [statsObject?_none hobject]
      rfl
    · rw [flag?_none hflag]
      cases statsObject? object <;> rfl

/-- Settles O34: a report changes the event unit alone, which stores the event or drops it. -/
theorem eventsAreStoredOrDropped : Obligations.EventsAreStoredOrDropped := by
  unfold Obligations.EventsAreStoredOrDropped
  intro s r
  refine ⟨fun hroom => ?_, fun hfull => ?_⟩
  · rw [report_eq, storeIn_stored _ _ _ hroom]
    rfl
  · rw [report_eq, storeIn_dropped _ _ _ hfull]

end Sys2Proof.Machine
end

section
/-! SUPPORT. The frame in which each row runs, and what it leaves of the waiting commands, RESET# and the link. -/

namespace Sys2Proof.Machine

/-! ### The frame of each row -/

/-- But for the edges, a row runs in the frame of its kind, and what a block does there reads none of its
surroundings. -/
inductive Framed (c : Instr) : Prop
  | bus (act : State → State) (e : ∀ s, exec c s = .next (onBus s act)) (h : BlindButForwarding act)
  | consequence (due : State → Bool) (act : State → State) (e : ∀ s, exec c s = .next (whenDue s due act))
    (h : Blind act)
  | link (n : Nat) (r : Response) (e : ∀ s, exec c s = .next (onLink s n r))
  | service (code tag : Byte) (act : State → Reply) (e : ∀ s, exec c s = .next (serve code tag s act))
    (h : BlindReply act)
  | edge (h : rowKind c = .edge)

theorem framed_bus {c : Instr} (hc : rowKind c = .bus) : Framed c := by
  cases c with
  | tick => exact .bus _ (fun _ => rfl) fun w s _ => within_tickBoth w s
  | slotExpiry | frameBoundary => exact .bus _ (fun _ => rfl) fun w s _ => within_ite w (within_tickBoth w s) rfl
  | arrival p x => exact .bus _ (fun _ => rfl) fun w s _ => within_present w s p x
  | arrivalWithdraw p => exact .bus _ (fun _ => rfl) fun _ _ _ => rfl
  | take => exact .bus _ (fun _ => rfl) fun w s hw => within_takeOffer w hw s
  | completion r => exact .bus _ (fun _ => rfl) fun w s _ => within_complete w r s
  | _ => cases hc

theorem framed_consequence {c : Instr} (hc : rowKind c = .consequence) : Framed c := by
  cases c with
  | heldArrivalTake p => exact .consequence _ _ (fun _ => rfl) fun w s => within_takeHeld w s p
  | entryTimeout => exact .consequence _ _ (fun _ => rfl) within_timeOut
  | drainComplete => exact .consequence _ _ (fun _ => rfl) within_enterEngaged
  | _ => cases hc

theorem framed_link {c : Instr} (hc : rowKind c = .link) : Framed c := by
  cases c with
  | shortTransfer | badcrcPacket | unknownCommand | nop => exact .link _ _ fun _ => rfl
  | _ => cases hc

/-- The check of an operand reads none of the surroundings, if the judgement after it does not. -/
theorem BlindReply.checked {α : Type} {o : Option α} {judge : State → α → Reply}
    (h : ∀ x, BlindReply (judge · x)) : BlindReply fun s => checked o s (judge s) :=
  fun w s => placed_checked w fun x => h x w s

theorem framed_service {c : Instr} (hc : rowKind c = .service) : Framed c := by
  cases c with
  | readStatus => exact .service _ _ _ (fun _ => rfl) fun _ _ => rfl
  | clearOverride | readBank | readAccount | setTimeout | setFaultAction | setFenceLimit | setAlertMask =>
    exact .service _ _ _ (fun _ => rfl) <| .checked fun _ _ _ => rfl
  | stageOverride | readSlot | readWindow =>
    exact .service _ _ _ (fun _ => rfl) <| .checked fun _ => .checked fun _ _ _ => rfl
  | writeWindow =>
    exact .service _ _ _ (fun _ => rfl) <| .checked fun _ => .checked fun _ => .checked fun _ _ _ => rfl
  | writeBankHeader =>
    exact .service _ _ _ (fun _ => rfl) <| .checked fun b => .checked fun n w s => placed_writeBank w s b n _
  | writeSlot =>
    exact .service _ _ _ (fun _ => rfl) <| .checked fun b => .checked fun _ => .checked fun _ w s =>
      placed_writeBank w s b _ _
  | switch tag signature => exact .service _ _ _ (fun _ => rfl) fun w s => placed_requestSwitch w s signature
  | cancelSwitch => exact .service _ _ _ (fun _ => rfl) fun w _ => placed_ite w rfl rfl
  | writeAccount =>
    exact .service _ _ _ (fun _ => rfl) <| .checked fun a => .checked fun n => .checked fun p => .checked fun x w s =>
      placed_describeAccount w s a _ n p x
  | refillNow => exact .service _ _ _ (fun _ => rfl) <| .checked fun a w s => placed_refillAtOnce w s a
  | engage tag bank signature =>
    exact .service _ _ _ (fun _ => rfl) <| .checked fun b w s => placed_requestEngage w s b signature
  | disengage => exact .service _ _ _ (fun _ => rfl) placed_requestDisengage
  | halt => exact .service _ _ _ (fun _ => rfl) placed_requestHalt
  | restart => exact .service _ _ _ (fun _ => rfl) placed_requestRestart
  | quiesce =>
    exact .service _ _ _ (fun _ => rfl) <| .checked fun p => .checked fun f w s => placed_quiescePort w s p f
  | resume => exact .service _ _ _ (fun _ => rfl) <| .checked fun p w s => placed_resumePort w s p
  | setTickDivider => exact .service _ _ _ (fun _ => rfl) <| .checked fun _ w _ => placed_ite w rfl rfl
  | setDepth => exact .service _ _ _ (fun _ => rfl) <| .checked fun n w s => placed_judgeDepth w s n
  | discardAbandoned => exact .service _ _ _ (fun _ => rfl) placed_discard
  | readEvent => exact .service _ _ _ (fun _ => rfl) placed_readOldest
  | ackEvent tag sequence => exact .service _ _ _ (fun _ => rfl) fun w s => placed_acknowledge w s sequence
  | readStats =>
    exact .service _ _ _ (fun _ => rfl) <| .checked fun o => .checked fun f w s => placed_readStatistics w s o f
  | _ => cases hc

theorem framed (c : Instr) : Framed c := by
  cases hc : rowKind c with
  | bus => exact framed_bus hc
  | consequence => exact framed_consequence hc
  | link => exact framed_link hc
  | service => exact framed_service hc
  | edge => exact .edge hc

/-! ### What a frame leaves of the waiting commands, RESET# and the link -/

/-- The commands that wait, and whether RESET# is asserted, are the same in both states. -/
def SameInputs (s t : State) : Prop := t.pending = s.pending ∧ t.inReset = s.inReset

theorem SameInputs.trans {s t u : State} (h : SameInputs s t) (h' : SameInputs t u) : SameInputs s u :=
  ⟨h'.1.trans h.1, h'.2.trans h.2⟩

/-- An operation of the blocks leaves the inputs and the link. -/
theorem BlindButForwarding.inputs {f : State → State} (h : BlindButForwarding f) (s : State) :
    SameInputs s (f s) ∧ (f s).link = s.link := by
  obtain ⟨hp, hr, hl, -, -⟩ := h.frame s
  exact ⟨⟨hp, hr⟩, hl⟩

theorem inputs_openTransfer (s : State) : SameInputs s (openTransfer s) := by
  rw [openTransfer_eq]
  split_ifs <;> exact ⟨rfl, rfl⟩

theorem onBus_inputs (s : State) {act : State → State} (h : BlindButForwarding act) :
    SameInputs s (onBus s act) ∧ (onBus s act).link = s.link := by
  unfold onBus
  split_ifs
  · exact ⟨⟨rfl, rfl⟩, rfl⟩
  · obtain ⟨hs, hl⟩ := blind_settle.forwarding.inputs (begin s)
    obtain ⟨hs', hl'⟩ := h.inputs (settle (begin s))
    exact ⟨hs.trans hs', hl'.trans hl⟩

theorem whenDue_inputs (s : State) {due : State → Bool} {act : State → State} (h : Blind act) :
    SameInputs s (whenDue s due act) ∧ (whenDue s due act).link = s.link := by
  unfold whenDue
  split_ifs
  · exact h.forwarding.inputs (begin s)
  · exact ⟨⟨rfl, rfl⟩, rfl⟩

/-- A row that ends in the link leaves the link as it is, where it is not open, or closes it with a response. -/
theorem onLink_inputs (s : State) (n : Nat) (r : Response) :
    SameInputs s (onLink s n r) ∧ ((onLink s n r).link = s.link ∨ (onLink s n r).link = closedLink r) := by
  unfold onLink
  split_ifs
  · exact ⟨inputs_openTransfer (begin s), .inr rfl⟩
  · exact ⟨⟨rfl, rfl⟩, .inl rfl⟩

/-- A command that a block judges leaves the link as it is, where it is not open, or closes it with a response. -/
theorem serve_inputs (s : State) {code tag : Byte} {act : State → Reply} (h : BlindReply act) :
    SameInputs s (serve code tag s act)
      ∧ ((serve code tag s act).link = s.link ∨ ∃ r, (serve code tag s act).link = closedLink r) := by
  unfold serve
  split_ifs
  · have hopen := inputs_openTransfer (begin s)
    obtain ⟨hsettle, -⟩ := blind_settle.forwarding.inputs (openTransfer (begin s))
    obtain ⟨hact, -⟩ := h.after.forwarding.inputs (settle (openTransfer (begin s)))
    exact ⟨(hopen.trans hsettle).trans hact, .inr ⟨_, rfl⟩⟩
  · exact ⟨⟨rfl, rfl⟩, .inl rfl⟩

/-- Every row but the edges leaves the inputs, and leaves the link or closes it with a response (R147). -/
theorem exec_inputs {c : Instr} (hc : rowKind c ≠ .edge) (s : State) :
    ∃ t, exec c s = .next t ∧ SameInputs s t ∧ (t.link = s.link ∨ ∃ r, t.link = closedLink r) := by
  cases framed c with
  | bus act e h =>
    obtain ⟨hs, hl⟩ := onBus_inputs s h
    exact ⟨_, e s, hs, .inl hl⟩
  | consequence due act e h =>
    obtain ⟨hs, hl⟩ := whenDue_inputs s h
    exact ⟨_, e s, hs, .inl hl⟩
  | link n r e =>
    obtain ⟨hs, hl⟩ := onLink_inputs s n r
    exact ⟨_, e s, hs, hl.imp_right fun h => ⟨r, h⟩⟩
  | service code tag act e h => exact ⟨_, e s, serve_inputs s h⟩
  | edge h => exact absurd h hc

/-- Settles O5: each row leaves the inputs, but for the edges of RESET#, which leave the commands that wait. -/
theorem commandsCompleteAndLeaveTheQueue : Obligations.CommandsCompleteAndLeaveTheQueue := by
  unfold Obligations.CommandsCompleteAndLeaveTheQueue
  intro c s
  by_cases hc : rowKind c = .edge
  · cases c with
    | resetAssert => exact ⟨_, rfl, rfl, fun h => absurd rfl h⟩
    | resetRelease =>
      refine ⟨_, rfl, ?_, fun _ h => absurd rfl h⟩
      split_ifs <;> rfl
    | transferStart =>
      have hs : SameInputs s (if s.link.lselLow then begin s
          else if s.inReset then outsideTransfer (begin s) true else openTransfer (begin s)) := by
        split_ifs
        · exact ⟨rfl, rfl⟩
        · exact ⟨rfl, rfl⟩
        · exact inputs_openTransfer (begin s)
      exact ⟨_, rfl, hs.1, fun _ _ => hs.2⟩
    | lselRiseWithoutTransfer =>
      refine ⟨_, rfl, ?_⟩
      split_ifs <;> exact ⟨rfl, fun _ _ => rfl⟩
    | _ => cases hc
  · obtain ⟨t, e, ⟨hp, hr⟩, -⟩ := exec_inputs hc s
    exact ⟨t, e, hp, fun _ _ => hr⟩

/-! ### The law of the link -/

theorem ldoBit_zero (r : Response) : ldoBit r 0 = ((responseBytes r).getD 0 0).getMsbD 0 := rfl

namespace LinkSound

variable {s t : State}

/-- The law reads the link and whether RESET# is asserted. -/
theorem congr (h : LinkSound s) (hr : t.inReset = s.inReset) (hl : t.link = s.link) : LinkSound t where
  held := by rw [hl]; exact h.held
  transfer := by rw [hl, hr]; exact h.transfer
  undriven := by rw [hl]; exact h.undriven
  first := by rw [hl]; exact h.first

/-- A closed link holds a response, and nothing is shifted out. -/
theorem closed {r : Response} (hl : t.link = closedLink r) : LinkSound t where
  held := by simp [hl, closedLink]
  transfer := by simp [hl, closedLink]
  undriven := by simp [hl, closedLink]
  first := by simp [hl, closedLink]

/-- Outside a transfer, LSEL# may stand at either level. -/
theorem outside (hs : s.link.shifting = none) (hh : s.link.held.isSome = true) (low : Bool) :
    LinkSound (outsideTransfer s low) where
  held := by simp [hs, hh]
  transfer := by simp [hs]
  undriven := by
    intro hlow
    cases hlow
    rfl
  first := by simp [hs]

/-- The fall of LSEL# that begins a transfer: the held response is shifted out, and its first bit is shown (R159). -/
theorem opened (h : LinkSound s) (hr : s.inReset = false) : LinkSound (openTransfer s) := by
  cases hs : s.link.shifting with
  | some r =>
    rw [openTransfer_eq, if_pos (by simp [hs])]
    exact h
  | none =>
    obtain ⟨r, hheld⟩ := Option.isSome_iff_exists.mp (h.held.mpr hs)
    rw [openTransfer_eq, if_neg (by simp [hs]), hheld]
    exact {
      held := by simp
      transfer := fun _ => ⟨rfl, hr⟩
      undriven := nofun
      first := fun x hx => by
        cases hx
        exact congrArg Pin.driven (ldoBit_zero r) }

/-- With LSEL# high, or RESET# asserted, no transfer is in progress. -/
theorem no_transfer (h : LinkSound s) (hc : s.link.lselLow = false ∨ s.inReset = true) : s.link.shifting = none := by
  by_contra hs
  obtain ⟨hlow, hr⟩ := h.transfer (Option.isSome_iff_ne_none.mpr hs)
  rcases hc with hc | hc
  · exact absurd (hlow.symm.trans hc) nofun
  · exact absurd (hr.symm.trans hc) nofun

/-- Outside a transfer the link stays sound, whatever the level at which LSEL# then stands. -/
theorem leaves (h : LinkSound s) (hs : s.link.shifting = none) (low : Bool) : LinkSound (outsideTransfer s low) :=
  outside hs (h.held.mpr hs) low

theorem after_edge (h : LinkSound s) {c : Instr} (hc : rowKind c = .edge) :
    ∃ t, exec c s = .next t ∧ LinkSound t := by
  have hb : LinkSound (begin s) := h.congr rfl rfl
  cases c with
  | resetAssert => exact ⟨_, rfl, outside rfl rfl _⟩
  | resetRelease =>
    refine ⟨_, rfl, ?_⟩
    split_ifs with hr
    · have hs := h.no_transfer (.inr hr)
      exact outside (s := { begin s with inReset := false }) hs (h.held.mpr hs) _
    · exact hb
  | transferStart =>
    refine ⟨_, rfl, ?_⟩
    split_ifs with hl hr
    · exact hb
    · exact hb.leaves (h.no_transfer (.inr hr)) true
    · exact hb.opened (Bool.eq_false_iff.mpr hr)
  | lselRiseWithoutTransfer =>
    refine ⟨_, rfl, ?_⟩
    split_ifs with hs
    · exact hb
    · exact hb.leaves (by simpa using hs) false
  | _ => cases hc

theorem after_exec (h : LinkSound s) (c : Instr) : ∃ t, exec c s = .next t ∧ LinkSound t := by
  by_cases hc : rowKind c = .edge
  · exact h.after_edge hc
  · obtain ⟨t, e, ⟨-, hr⟩, hl⟩ := exec_inputs hc s
    refine ⟨t, e, ?_⟩
    rcases hl with hl | ⟨r, hl⟩
    · exact h.congr hr hl
    · exact closed hl

end LinkSound

/-- A step runs the command at the front of the queue with the queue's rest, or idles. -/
theorem step_runs {s t : State} (e : step s = .next t) :
    t = s ∨ ∃ c rest, exec c { s with pending := rest } = .next t := by
  unfold step at e
  split at e
  · cases e
    exact .inl rfl
  · exact .inr ⟨_, _, e⟩

/-- Settles O56: each command keeps the law of the link. -/
theorem linkAlwaysHoldsOneResponse : Obligations.LinkAlwaysHoldsOneResponse := by
  unfold Obligations.LinkAlwaysHoldsOneResponse
  intro s t h e
  rcases step_runs e with rfl | ⟨c, rest, e⟩
  · exact h
  · have hr : LinkSound { s with pending := rest } := h.congr rfl rfl
    obtain ⟨u, hu, hsound⟩ := hr.after_exec c
    rw [hu] at e
    cases e
    exact hsound

end Sys2Proof.Machine
end

section
/-! SUPPORT. The bits and bytes of a transfer, the packets that they spell, and the rows of the service link. -/

namespace Sys2Proof.Machine

/-! ### Bits gathered into bytes and spread from them (R143) -/

theorem gatherBytes_length (bits : List Bool) : (gatherBytes bits).length = bits.length / 8 := by
  induction bits using gatherBytes.induct with
  | case1 b0 b1 b2 b3 b4 b5 b6 b7 rest ih =>
    rw [gatherBytes, List.length_cons, ih]
    simp only [List.length_cons]
    omega
  | case2 bits h =>
    have hlt : bits.length < 8 := by
      match bits, h with
      | [], _ | [_], _ | [_, _], _ | [_, _, _], _ | [_, _, _, _], _ | [_, _, _, _, _], _
      | [_, _, _, _, _, _], _ | [_, _, _, _, _, _, _], _ => simp
      | b0 :: b1 :: b2 :: b3 :: b4 :: b5 :: b6 :: b7 :: rest, h => exact absurd rfl (h b0 b1 b2 b3 b4 b5 b6 b7 rest)
    rw [gatherBytes_unfinished bits hlt, Nat.div_eq_of_lt hlt]
    rfl

/-- Bit `j` of byte `i`, counted from the most significant, is bit `8 * i + j` of the transfer. -/
theorem gatherBytes_getMsbD (bits : List Bool) {i j : Nat} (hi : i < bits.length / 8) (hj : j < 8) :
    ((gatherBytes bits).getD i 0).getMsbD j = bits.getD (8 * i + j) false := by
  induction bits using gatherBytes.induct generalizing i with
  | case1 b0 b1 b2 b3 b4 b5 b6 b7 rest ih =>
    rw [gatherBytes]
    cases i with
    | zero =>
      refine (BitVec.getMsbD_ofBoolListBE (bs := [b0, b1, b2, b3, b4, b5, b6, b7])).trans ?_
      match j, hj with
      | 0, _ | 1, _ | 2, _ | 3, _ | 4, _ | 5, _ | 6, _ | 7, _ => rfl
    | succ i =>
      have hrest : i < rest.length / 8 := by
        simp only [List.length_cons] at hi
        omega
      rw [List.getD_cons_succ, ih hrest, show 8 * (i + 1) + j = 8 * i + j + 8 by omega]
      rfl
  | case2 bits h =>
    have hnone := gatherBytes_length bits
    rw [gatherBytes.eq_2 bits h] at hnone
    exact absurd hi (hnone ▸ Nat.not_lt_zero i)

/-- Bit `i` of a run of bytes lies in byte `i / 8`, counted from its most significant bit; past the last byte there is
none. -/
theorem spreadBytes_getD (bytes : List Byte) (i : Nat) :
    (spreadBytes bytes).getD i false = (bytes.getD (i / 8) 0).getMsbD (i % 8) := by
  induction bytes generalizing i with
  | nil => simp [spreadBytes]
  | cons b bytes ih =>
    match i with
    | 0 | 1 | 2 | 3 | 4 | 5 | 6 | 7 => rfl
    | i + 8 =>
      rw [Nat.add_mod_right, Nat.add_div_right i (by decide : 0 < 8), List.getD_cons_succ, ← ih]
      rfl

/-! ### What LDO carries (R143) -/

theorem responseBytes_length (r : Response) (h : r.result.length = 19) : (responseBytes r).length = 24 := by
  simp [responseBytes, halfBytes, h]

theorem ldoBit_eq (r : Response) (h : r.result.length = 19) (i : Nat) :
    ldoBit r i = (decide (i < 192) && ((responseBytes r).getD (i / 8) 0).getMsbD (i % 8)) := by
  rw [ldoBit, spreadBytes_getD]
  by_cases hi : i < 192
  · simp [hi]
  · rw [List.getD_eq_default _ _ (by rw [responseBytes_length r h]; omega)]
    simp [hi]

/-- Settles O6: the fall of LSEL#, the rise outside a transfer, and the bits of the response one by one. -/
theorem transferStartGivesUpTheHeldResponse : Obligations.TransferStartGivesUpTheHeldResponse := by
  unfold Obligations.TransferStartGivesUpTheHeldResponse
  refine ⟨fun s hs => ⟨fun r hr hl hh => ?fall, ?rise⟩, fun r n h => ⟨?length, fun i hi => ?bit⟩⟩
  case fall =>
    have ho : exec .transferStart s = .next (openTransfer (begin s)) :=
      congrArg Host.Outcome.next ((if_neg (by simp [hl])).trans (if_neg (by simp [hr])))
    rw [ho, openTransfer_eq, if_neg (by simp [hs]), begin_link, hh]
    rfl
  case rise => exact congrArg Host.Outcome.next (if_neg (by simp [hs]))
  case length => simp [ldoBits]
  case bit => simp [ldoBits, hi, ldoBit_eq r h]

/-! ### What a transfer spells (R143, R148, R149) -/

theorem decodeTransfer_short {bits : List Bool} (h : bits.length < 192) :
    decodeTransfer bits = .shortTransfer bits := by
  refine if_pos ?_
  rw [gatherBytes_length]
  exact Nat.div_lt_of_lt_mul h

/-- Of 192 bits or more the first 24 bytes form the packet, which is read if its CRC is correct. -/
theorem decodeTransfer_complete {bits : List Bool} (h : 192 ≤ bits.length) :
    decodeTransfer bits = decodePacket (gatherBytes bits) := by
  refine if_neg ?_
  rw [gatherBytes_length]
  exact Nat.not_lt.mpr ((Nat.le_div_iff_mul_le (by decide)).mpr h)

theorem byteAt_take {bytes : List Byte} {i n : Nat} (h : i < n) : byteAt (bytes.take n) i = byteAt bytes i := by
  simp [byteAt, h]

theorem crcHolds_take (bytes : List Byte) :
    crcHolds (bytes.take 24) = (crc (bytes.take 22) == halfAt bytes 22) := by
  rw [crcHolds, List.take_take, halfAt, byteAt_take (by decide), byteAt_take (by decide)]
  rfl

theorem decodePacket_badcrc {bytes : List Byte} (h : crc (bytes.take 22) ≠ halfAt bytes 22) :
    decodePacket bytes = .badcrcPacket (byteAt bytes 0) (byteAt bytes 1) := by
  refine (if_neg ?_).trans (congrArg₂ Instr.badcrcPacket (byteAt_take (by decide)) (byteAt_take (by decide)))
  rw [Config.packetBytes, crcHolds_take]
  simp [h]

/-! ### Transfers that end in the link -/

/-- A row that ends in the link forms the held response, and changes no block (R147). -/
theorem exec_onLink {s : State} (h : linkOpen s = true) {c : Instr} {n : Nat} {r : Response}
    (e : exec c s = .next (onLink s n r)) :
    exec c s = .next { s with link := closedLink r, outputs := linkOutputs s.link n } := by
  rw [e, onLink_open s n r h, closeTransfer_openTransfer]

/-- Settles O7: the bits form the bytes, the bytes name the row, and the row ends in the link. -/
theorem transfersThatReachNoBlock : Obligations.TransfersThatReachNoBlock := by
  unfold Obligations.TransfersThatReachNoBlock
  refine ⟨fun bits => ⟨gatherBytes_length bits, fun i hi j hj => gatherBytes_getMsbD bits hi hj⟩,
    fun bits h => decodeTransfer_short h,
    fun bits h hcrc => (decodeTransfer_complete h).trans (decodePacket_badcrc hcrc), fun s h => ?_⟩
  exact ⟨fun bits _ => exec_onLink h rfl, fun code tag => exec_onLink h rfl, fun tag code => exec_onLink h rfl,
    fun tag identifier => exec_onLink h rfl, fun tag => exec_onLink h rfl⟩

/-! ### READ_STATUS -/

/-- Settles O8: the status block is the reply, and its state is the one that the command met. -/
theorem readStatusReportsTheMachine : Obligations.ReadStatusReportsTheMachine := by
  unfold Obligations.ReadStatusReportsTheMachine
  intro s tag h
  exact congrArg Host.Outcome.next (serve_reply (res := statusResult s) h (fun _ _ => rfl) rfl)

end Sys2Proof.Machine
end

section
/-! SUPPORT. Every service command is read back from the packet that spells it. -/

namespace Sys2Proof.Machine

/-! ### Fields of a packet (R145, R155) -/

theorem halfBytes_joined (x : Half) : x.extractLsb' 8 8 ++ x.extractLsb' 0 8 = x := by
  rw [BitVec.extractLsb'_append_extractLsb'_eq_extractLsb' (by decide)]
  simp

theorem tripleBytes_joined (x : Triple) : x.extractLsb' 16 8 ++ x.extractLsb' 8 8 ++ x.extractLsb' 0 8 = x := by
  rw [BitVec.extractLsb'_append_extractLsb'_eq_extractLsb' (by decide),
    BitVec.extractLsb'_append_extractLsb'_eq_extractLsb' (by decide)]
  simp

theorem quadBytes_joined (x : Quad) :
    (x.extractLsb' 24 8 ++ x.extractLsb' 16 8) ++ (x.extractLsb' 8 8 ++ x.extractLsb' 0 8) = x := by
  rw [BitVec.extractLsb'_append_extractLsb'_eq_extractLsb' (by decide),
    BitVec.extractLsb'_append_extractLsb'_eq_extractLsb' (by decide),
    BitVec.extractLsb'_append_extractLsb'_eq_extractLsb' (by decide)]
  simp

/-! ### The packet of a command -/

/-- The packet of a command names a code, a tag, and at most 20 operand bytes (R145). -/
theorem encodePacket_shape {i : Instr} {p : List Byte} (e : encodePacket i = some p) :
    ∃ code tag operands, p = packetOf code tag operands ∧ operands.length ≤ 20 := by
  cases i with
  | unknownCommand tag what =>
    cases what <;> cases e <;> exact ⟨_, _, _, rfl, Nat.le_of_ble_eq_true rfl⟩
  | _ => cases e <;> exact ⟨_, _, _, rfl, Nat.le_of_ble_eq_true rfl⟩

theorem crcHolds_packetOf (code tag : Byte) {operands : List Byte} (h : operands.length ≤ 20) :
    crcHolds (packetOf code tag operands) = true := by
  have hbody : (code :: tag :: operands ++ List.replicate (20 - operands.length) 0).length = 22 := by
    simp
    omega
  rw [packetOf]
  generalize code :: tag :: operands ++ List.replicate (20 - operands.length) 0 = body at hbody
  have hhalf : halfAt (body ++ halfBytes (crc body)) 22 = crc body := by
    simp only [halfAt, byteAt, ← hbody]
    simp [halfBytes, halfBytes_joined]
  rw [crcHolds, hhalf, ← hbody, List.take_left, beq_self_eq_true]

/-- A transfer that carries a packet with a correct CRC spells the packet's command, whatever follows (R143, R148). -/
theorem decodeTransfer_packetOf (code tag : Byte) {operands : List Byte} (h : operands.length ≤ 20)
    (extra : List Bool) :
    decodeTransfer (spreadBytes (packetOf code tag operands) ++ extra)
      = decodeCommand (packetOf code tag operands) := by
  have hlength := Laws.packetOf_length code tag operands h
  rw [decodeTransfer_complete (by rw [List.length_append, Laws.spreadBytes_length, hlength]; omega),
    gatherBytes_spreadBytes, decodePacket, Config.packetBytes, ← hlength, List.take_left,
    crcHolds_packetOf code tag h]
  rfl

/-- A SET_PARAM packet whose identifier is not one of the six (R153; assumption 10). -/
theorem decodeParameter_unknown {tag identifier : Byte} {value : Quad}
    (h : (Unnamed.parameter identifier).wellFormed = true) :
    decodeParameter identifier tag value = .unknownCommand tag (.parameter identifier) := by
  have hnot : identifier ∉ parameterIdentifiers := by simpa [Unnamed.wellFormed] using h
  simp only [parameterIdentifiers, List.mem_cons, not_or] at hnot
  obtain ⟨h1, h2, h3, h4, h5, h6, -⟩ := hnot
  rw [decodeParameter, if_neg h1, if_neg h2, if_neg h3, if_neg h4, if_neg h5, if_neg h6]

/-- A packet whose code is not one of the 25 (R149). -/
theorem decodeCommand_unknown {code tag : Byte} (h : (Unnamed.code code).wellFormed = true) :
    decodeCommand (packetOf code tag []) = .unknownCommand tag (.code code) := by
  have hnot : code ∉ commandCodes := by simpa [Unnamed.wellFormed] using h
  have hne : ∀ n, BitVec.ofNat 8 n ∈ commandCodes → code.toNat ≠ n := by
    rintro n hn rfl
    rw [BitVec.ofNat_toNat, BitVec.setWidth_eq] at hn
    exact hnot hn
  unfold decodeCommand
  split
  case h_26 => rfl
  all_goals exact absurd ‹_› (hne _ (by decide))

/-- A well-formed command is read back from its packet (Table 10-3). -/
theorem decodeCommand_encodePacket {i : Instr} {p : List Byte} (h : i.wellFormed = true)
    (e : encodePacket i = some p) : decodeCommand p = i := by
  cases i with
  | unknownCommand tag what =>
    cases what with
    | code c =>
      cases e
      exact decodeCommand_unknown h
    | parameter identifier =>
      cases e
      exact decodeParameter_unknown h
  | writeSlot tag bank index entry =>
    cases e
    exact congrArg (Instr.writeSlot tag bank index) (quadBytes_joined entry)
  | switch tag signature =>
    cases e
    exact congrArg (Instr.switch tag) (halfBytes_joined signature)
  | writeWindow tag port window entry =>
    cases e
    exact congrArg₂ (fun base limit => Instr.writeWindow tag port window { entry with base, limit })
      (tripleBytes_joined entry.base) (tripleBytes_joined entry.limit)
  | writeAccount tag account preload period parent exhaust =>
    cases e
    exact congrArg (Instr.writeAccount tag account · period parent exhaust) (halfBytes_joined preload)
  | stageOverride tag account flag value =>
    cases e
    have hflag : flag ≠ 0 := by simpa [Instr.wellFormed] using h
    exact (if_neg hflag).trans (congrArg (Instr.stageOverride tag account flag) (halfBytes_joined value))
  | engage tag bank signature =>
    cases e
    exact congrArg (Instr.engage tag bank) (halfBytes_joined signature)
  | setTickDivider tag value | setDepth tag value | setTimeout tag value | setFaultAction tag value
  | setFenceLimit tag value | setAlertMask tag value =>
    cases e
    exact (congrArg _ (quadBytes_joined value).symm).symm
  | ackEvent tag sequence =>
    cases e
    exact congrArg (Instr.ackEvent tag) (halfBytes_joined sequence)
  | _ => cases e <;> rfl

/-- A transfer that spells a row is a short one, or carries the row's packet. -/
theorem encodeTransfer_some {i : Instr} {bits : List Bool} (e : encodeTransfer i = some bits) :
    i = .shortTransfer bits ∨ ∃ p, encodePacket i = some p ∧ bits = spreadBytes p := by
  unfold encodeTransfer at e
  split at e
  · cases e
    exact .inl rfl
  · obtain ⟨p, hp, rfl⟩ := Option.map_eq_some_iff.mp e
    exact .inr ⟨p, hp, rfl⟩

/-- Settles O52: a short transfer is its own row, and any other command is read from its packet, whatever follows. -/
theorem decodeReadsEveryEncodedCommand : Obligations.DecodeReadsEveryEncodedCommand := by
  unfold Obligations.DecodeReadsEveryEncodedCommand
  intro i bits extra h e
  rcases encodeTransfer_some e with rfl | ⟨p, hp, rfl⟩
  · have hlt : bits.length < 192 := of_decide_eq_true h
    exact ⟨decodeTransfer_short hlt, fun hc => absurd hc (Nat.ne_of_lt hlt)⟩
  · obtain ⟨code, tag, operands, rfl, hlength⟩ := encodePacket_shape hp
    have hread : ∀ more, decodeTransfer (spreadBytes (packetOf code tag operands) ++ more) = i := fun more =>
      (decodeTransfer_packetOf code tag hlength more).trans (decodeCommand_encodePacket h hp)
    have hexact := hread []
    rw [List.append_nil] at hexact
    exact ⟨hexact, fun _ => hread extra⟩

end Sys2Proof.Machine
end

section
/-! SUPPORT. What a step does, by the queue of waiting commands. -/

namespace Sys2Proof.Machine

/-! ### A step, with a command waiting and with none (assumption 1) -/

theorem step_of_pending_cons {s : State} {c : Instr} {rest : List Instr} (h : s.pending = c :: rest) :
    step s = exec c { s with pending := rest } := by
  rw [step, h]

theorem step_of_pending_nil {s : State} (h : s.pending = []) : step s = .next s := by
  rw [step, h]

/-- Settles O4: a command at the front is run with the queue's rest, and the block idles on an empty queue. -/
theorem stepRunsTheCommandAtTheFront : Obligations.StepRunsTheCommandAtTheFront := by
  unfold Obligations.StepRunsTheCommandAtTheFront
  intro s
  exact ⟨fun _ _ h => step_of_pending_cons h, step_of_pending_nil⟩

end Sys2Proof.Machine
end
